-- ==== Sys2Proof/Word.lean ====
section
/-! DEFINITION. The word types of the block: the 3-bit decision words, the 32-bit timestamps and the 16-bit ROM words. -/

namespace Sys2Proof

/-- A tick decision word or a cycle phase code (30_encoding.md R54, R60). -/
abbrev Word3 := BitVec 3

/-- A timestamp of the microsecond timebase, TS_W = 32 bits (00_scope.md R7). -/
abbrev Timestamp := BitVec 32

/-- A word of the sine ROM: 16 bits, two's complement, Q1.14 (20_memory.md R41, 00_scope.md R13). -/
abbrev RomWord := BitVec 16

/-- One byte of the model's own container for an operation word (log 6). -/
abbrev Byte := BitVec 8

/-- Three bits as a word, the first argument in bit 2. -/
def word3 (b2 b1 b0 : Bool) : Word3 := BitVec.ofNat 3 (4 * b2.toNat + 2 * b1.toNat + b0.toNat)

end Sys2Proof
end

