-- ==== Sys2Proof/Config.lean ====
section
/-! DEFINITION. The configuration record of the block (00_scope.md R6), the ROM contents beside it
(40_waveform_table.md R85), the law the contents obey (R76), and the free values the spec leaves open. -/

namespace Sys2Proof

/-- The elaboration parameters of R6, as the integers the requester gives (R137 names conditions on negative ones), and the
ROM contents, which R85 makes a configuration field. The record and the ROM are parameters of the step, never written (R33). -/
structure Config where
  /-- `N`: number of ROM entries. -/
  tableN : Int
  /-- `CYCLE_PERIOD_MS`: time of one full phase cycle, ms. -/
  cyclePeriodMs : Int
  /-- `H` (`HALF_PERIOD_US`): length of one channel block, cycles. -/
  halfPeriodUs : Int
  /-- `I` (`UPDATE_INTERVAL_US`): minimum interval between updates, cycles. -/
  updateIntervalUs : Int
  /-- `DIM_W`: width of the dimmer port, bits. -/
  dimW : Int
  /-- `MAX_RAW`: full-scale raw dimmer value. -/
  maxRaw : Int
  /-- `MIN_RATIO_Q16`. -/
  minRatioQ16 : Int
  /-- `MAX_RATIO_Q16`. -/
  maxRatioQ16 : Int
  /-- `COOL_FACTOR_Q16`. -/
  coolFactorQ16 : Int
  /-- `XFADE_LEVEL`: the switch level that selects Crossfade; OPEN in the spec (D16), so claims hold for both values. -/
  xfadeLevel : Int
  /-- `SINE_ROM`: word i at list position i (20_memory.md R41). -/
  rom : List RomWord
  deriving DecidableEq, Repr

/-- The law of R76: entry i is 16384 sin(2 pi i / N) to the nearest integer. A configuration whose ROM breaks it is a
different block (R85); claims that need particular entries take it as a premise. -/
def Config.RomLaw (c : Config) : Prop :=
  ∀ i : Nat, (i : Int) < c.tableN →
    ∃ w, c.rom[i]? = some w ∧ w.toInt = round (16384 * Real.sin (2 * Real.pi * i / c.tableN))

/-- FREE VALUE (log 3): the IN word the environment presents in a step for which State lists none. Argument: the model's
cycle counter. The spec leaves every input free (10_state.md R15, 70_reset_and_hazards.md R163). -/
opaque Config.freeInputWord : Nat → Nat

/-- FREE VALUE (log 11): what a register or port holds before the first reset. Argument: the register's place in the
inventory. The spec leaves it unspecified (70_reset_and_hazards.md R157). -/
opaque Config.powerUpValue : Nat → Nat

end Sys2Proof
end

