-- ==== Sys2Proof/Machine/Defaults.lean ====
section
/-! DEFINITION. The configuration of the defaults of 00_scope.md R6. -/

namespace Sys2Proof

/-- The defaults of R6 with the ROM of N = 3600. XFADE_LEVEL has no default (OPEN, D16): DESIGN CHOICE 0, the value the spec's
test vectors use (log 2); claims hold for both values. -/
def Config.default : Config where
  tableN := 3600
  cyclePeriodMs := 6000
  halfPeriodUs := 1000
  updateIntervalUs := 5000
  dimW := 10
  maxRaw := 1023
  minRatioQ16 := 3277
  maxRatioQ16 := 64881
  coolFactorQ16 := 42598
  xfadeLevel := 0
  rom := sineRom3600

end Sys2Proof
end

