-- ==== Sys2Proof/Machine/Derived.lean ====
section
/-! DEFINITION. The derived constants of the elaborated block (00_scope.md R8). The parameters of a legal configuration are
non-negative, so the elaborated values are naturals (log 12). -/

namespace Sys2Proof

/-- Number of bits of the binary numeral of v, 0 for 0 (R8). -/
def bitLength (v : Nat) : Nat := if v = 0 then 0 else Nat.log2 v + 1

/-- `N`, elaborated. -/
def Config.n (c : Config) : Nat := c.tableN.toNat

/-- `H`, elaborated. -/
def Config.h (c : Config) : Nat := c.halfPeriodUs.toNat

/-- `I`, elaborated. -/
def Config.interval (c : Config) : Nat := c.updateIntervalUs.toNat

/-- `DIM_W`, elaborated. -/
def Config.dimWidth (c : Config) : Nat := c.dimW.toNat

/-- `MAX_RAW`, elaborated. -/
def Config.maxRawN (c : Config) : Nat := c.maxRaw.toNat

/-- `MIN_RATIO_Q16`, elaborated. -/
def Config.minRatio (c : Config) : Nat := c.minRatioQ16.toNat

/-- `MAX_RATIO_Q16`, elaborated. -/
def Config.maxRatio (c : Config) : Nat := c.maxRatioQ16.toNat

/-- `COOL_FACTOR_Q16`, elaborated. -/
def Config.coolFactor (c : Config) : Nat := c.coolFactorQ16.toNat

/-- `PERIOD_US = 1000 * CYCLE_PERIOD_MS`. -/
def Config.periodUs (c : Config) : Nat := 1000 * c.cyclePeriodMs.toNat

/-- `M = N * PERIOD_US`, the modulus of the phase accumulator. -/
def Config.modulus (c : Config) : Nat := c.n * c.periodUs

/-- `PH_W = bitlength(M - 1)`. -/
def Config.phW (c : Config) : Nat := bitLength (c.modulus - 1)

/-- `IDX_W = max(1, bitlength(N - 1))`. -/
def Config.idxW (c : Config) : Nat := max 1 (bitLength (c.n - 1))

/-- `SLOT = 2 * H`, cycles per tick. -/
def Config.slot (c : Config) : Nat := 2 * c.h

/-- `SLOT_W = max(1, bitlength(SLOT - 1))`. -/
def Config.slotW (c : Config) : Nat := max 1 (bitLength (c.slot - 1))

/-- `DUR_W = max(1, bitlength(H - 1))`. -/
def Config.durW (c : Config) : Nat := max 1 (bitLength (c.h - 1))

/-- Reset value of `now_us` (70_reset_and_hazards.md R152). -/
def Config.resetNowUs (_ : Config) : Timestamp := 0xFFFFFFFF#32

/-- Reset value of `t`: SLOT - 1 (R152). -/
def Config.resetT (c : Config) : Nat := c.slot - 1

/-- Reset value of `prev_sw`: XFADE_LEVEL (R152), the level 1 as true. -/
def Config.resetPrevSw (c : Config) : Bool := decide (c.xfadeLevel = 1)

end Sys2Proof
end

