-- ==== Sys2Proof/Machine/State.lean ====
section
/-! DEFINITION. The state of the block (10_state.md R18 and the ports of R16), with the model's own fields, why a step can stop, and
the state after reset (70_reset_and_hazards.md R152). -/

namespace Sys2Proof.Machine

/-- The ModeState of R22: 0 Crossfade, 1 AllOn. -/
inductive Mode where
  | crossfade
  | allOn
  deriving DecidableEq, Repr

/-- The numeric value of a mode (R22). -/
def Mode.toBit : Mode → Bool
  | .crossfade => false
  | .allOn => true

/-- The state: the registers of R18, the output ports of R16 as the cycle's operation drives them (log 5), and three fields of
the model: the configuration (log 1), the input words to come (log 3) and the counter of free inputs (log 4). -/
structure State where
  /-- The model's: configuration record and ROM contents, which R33 makes parameters of the step. -/
  cfg : Config
  /-- Free-running microsecond timebase (R19). -/
  now_us : Timestamp
  /-- Sequencer position in the tick (R21). -/
  t : Nat
  /-- Light mode (R22). -/
  mode : Mode
  /-- Switch level sampled at the last poll (R23). -/
  prev_sw : Bool
  /-- Phase accumulator (R24). -/
  phase_acc : Nat
  /-- Timestamp of the last update or transition (R20). -/
  last_ts : Timestamp
  /-- Saturated raw dimmer sample (R25). -/
  dim_reg : Nat
  /-- The current tick is a blank tick (R26). -/
  blank : Bool
  /-- Warm on-time of the current tick (R27). -/
  plan_w : Nat
  /-- Cool on-time of the current tick (R27). -/
  plan_c : Nat
  /-- Port `warm_o` in the current cycle (R16). -/
  warm_o : Bool
  /-- Port `cool_o` in the current cycle (R16). -/
  cool_o : Bool
  /-- The model's: IN words (R52) the environment presents to the coming steps, the next one first. -/
  inputs : List Nat
  /-- The model's: number of the next step, which indexes the free input words. -/
  cycle : Nat
  deriving DecidableEq, Repr

/-- Why a step stops with a fault. Neither arises in a block whose ROM is populated as R40 and R41 say (R136). -/
inductive Fault where
  /-- Raised by the ROM read for an index no word is stored at (93_implementation_defined.md I2). Safe: the spec gives such a
  read no meaning. -/
  | romIndex
  /-- Raised by the ROM read for a word outside [-16384, 16384], which R41 says no ROM holds. Safe: such a block is a
  different one (R85). -/
  | romWord
  deriving DecidableEq, Repr

/-- Why the model refuses to step: the illegal configurations of 60_exceptions.md R137. All safe: no block exists for them (R9). -/
inductive Refusal where
  /-- Raised by an arm of `exec` with no meaning yet; no arm is one. Safe. -/
  | notModelled (mnemonic : String)
  /-- N < 1. Raised by `step`; safe. -/
  | CFG_TABLE_N
  /-- CYCLE_PERIOD_MS < 1. Raised by `step`; safe. -/
  | CFG_CYCLE_PERIOD
  /-- H < 1. Raised by `step`; safe. -/
  | CFG_HALF_PERIOD
  /-- I < 0 or I + 2 H > 2^32 - 1. Raised by `step`; safe. -/
  | CFG_UPDATE_INTERVAL
  /-- DIM_W outside 1..32 or MAX_RAW outside 1..2^DIM_W - 1. Raised by `step`; safe. -/
  | CFG_DIMMER
  /-- A ratio or the cool factor outside 0..65536. Raised by `step`; safe. -/
  | CFG_RATIO
  /-- XFADE_LEVEL not 0 or 1. Raised by `step`; safe. -/
  | CFG_XFADE_LEVEL
  deriving DecidableEq, Repr

/-- The outcome of a step or of an operation. -/
abbrev Result := Host.Outcome State Fault Refusal

/-- RESET_STATE of a configuration (R152), with both outputs 0 (R153), no input word listed and the counter at 0. -/
def State.resetFor (c : Config) : State where
  cfg := c
  now_us := c.resetNowUs
  t := c.resetT
  mode := .crossfade
  prev_sw := c.resetPrevSw
  phase_acc := 0
  last_ts := 0
  dim_reg := 0
  blank := true
  plan_w := 0
  plan_c := 0
  warm_o := false
  cool_o := false
  inputs := []
  cycle := 0

/-- The block of the default configuration right after reset (R6, R152; log 2). -/
def State.reset : State := State.resetFor Config.default

end Sys2Proof.Machine
end

