-- ==== Sys2Proof/Machine/Elaborate.lean ====
section
/-! DEFINITION. Elaboration: the legal values of the parameters (00_scope.md R6, R9) and the named reasons of 60_exceptions.md R137. -/

namespace Sys2Proof

/-- N < 1. -/
def Config.badTableN (c : Config) : Bool := decide (c.tableN < 1)

/-- CYCLE_PERIOD_MS < 1. -/
def Config.badCyclePeriod (c : Config) : Bool := decide (c.cyclePeriodMs < 1)

/-- H < 1. -/
def Config.badHalfPeriod (c : Config) : Bool := decide (c.halfPeriodUs < 1)

/-- I < 0 or I + 2 H > 2^32 - 1. -/
def Config.badUpdateInterval (c : Config) : Bool :=
  decide (c.updateIntervalUs < 0) || decide (4294967295 < c.updateIntervalUs + 2 * c.halfPeriodUs)

/-- DIM_W outside 1..32, or MAX_RAW outside 1..2^DIM_W - 1. -/
def Config.badDimmer (c : Config) : Bool :=
  decide (c.dimW < 1) || decide (32 < c.dimW) || decide (c.maxRaw < 1) || decide ((2 : Int) ^ c.dimW.toNat - 1 < c.maxRaw)

/-- A Q16 ratio outside 0..65536. -/
def badRatioValue (q : Int) : Bool := decide (q < 0) || decide (65536 < q)

/-- MIN_RATIO_Q16, MAX_RATIO_Q16 or COOL_FACTOR_Q16 outside 0..65536. -/
def Config.badRatio (c : Config) : Bool :=
  badRatioValue c.minRatioQ16 || badRatioValue c.maxRatioQ16 || badRatioValue c.coolFactorQ16

/-- XFADE_LEVEL not 0 or 1. -/
def Config.badXfadeLevel (c : Config) : Bool := decide (c.xfadeLevel ≠ 0) && decide (c.xfadeLevel ≠ 1)

open Machine in
/-- The reason a configuration is refused at elaboration, none for a legal one (R137). Where several conditions hold, the first
in R137's order is named: DESIGN CHOICE, log 8. -/
def Config.refusal (c : Config) : Option Refusal :=
  if c.badTableN then some .CFG_TABLE_N
  else if c.badCyclePeriod then some .CFG_CYCLE_PERIOD
  else if c.badHalfPeriod then some .CFG_HALF_PERIOD
  else if c.badUpdateInterval then some .CFG_UPDATE_INTERVAL
  else if c.badDimmer then some .CFG_DIMMER
  else if c.badRatio then some .CFG_RATIO
  else if c.badXfadeLevel then some .CFG_XFADE_LEVEL
  else none

end Sys2Proof
end

