-- ==== Sys2Proof/Syntax.lean ====
section
/-! DEFINITION. The operations of the block: one constructor per row of spec/opcode_table.json (30_encoding.md R75). The bits
a row leaves open (`u`, `h`, `a`) are operands, so that no bit of a word is dropped. -/

namespace Sys2Proof

/-- The two formats of decoded words (30_encoding.md R51): tick decision word and cycle phase code. -/
inductive Format where
  | tdw
  | cpc
  deriving DecidableEq, Repr

/-- The six tick operations (R58) and the five cycle operations (R62). -/
inductive Instr where
  /-- TR.XF, TDW 1u0 (R88); `upd` is the ignored UPD bit (R59). -/
  | trXf (upd : Bool)
  /-- TR.AO, TDW 1u1 (R89); `upd` is the ignored UPD bit (R59). -/
  | trAo (upd : Bool)
  /-- XF.HOLD, TDW 000 (R99). -/
  | xfHold
  /-- XF.UPD, TDW 010 (R100). -/
  | xfUpd
  /-- AO.HOLD, TDW 001 (R101). -/
  | aoHold
  /-- AO.UPD, TDW 011 (R102). -/
  | aoUpd
  /-- BLANK, CPC 1ha (R126); HALF and ACT are ignored. -/
  | blank (half act : Bool)
  /-- W.ON, CPC 001 (R122). -/
  | wOn
  /-- W.REM, CPC 000 (R123). -/
  | wRem
  /-- C.ON, CPC 011 (R124). -/
  | cOn
  /-- C.REM, CPC 010 (R125). -/
  | cRem
  deriving DecidableEq, Repr

/-- The format of an operation's word. -/
def Instr.format : Instr → Format
  | .trXf _ => .tdw
  | .trAo _ => .tdw
  | .xfHold => .tdw
  | .xfUpd => .tdw
  | .aoHold => .tdw
  | .aoUpd => .tdw
  | .blank _ _ => .cpc
  | .wOn => .cpc
  | .wRem => .cpc
  | .cOn => .cpc
  | .cRem => .cpc

/-- The spelling of an operation (30_encoding.md R69). -/
def Instr.mnemonic : Instr → String
  | .trXf _ => "TR.XF"
  | .trAo _ => "TR.AO"
  | .xfHold => "XF.HOLD"
  | .xfUpd => "XF.UPD"
  | .aoHold => "AO.HOLD"
  | .aoUpd => "AO.UPD"
  | .blank _ _ => "BLANK"
  | .wOn => "W.ON"
  | .wRem => "W.REM"
  | .cOn => "C.ON"
  | .cRem => "C.REM"

end Sys2Proof
end

