-- ==== Sys2Proof/WellFormed.lean ====
section
/-! DEFINITION. Well-formedness: of operations (every one is, 30_encoding.md R67), of input words (R52), and of the ROM contents
a configuration carries (20_memory.md R40, R41). The legal values of the parameters are Machine/Elaborate.lean's (R137). -/

namespace Sys2Proof

/-- No operation word is illegal or reserved (R67), and the operand bits of the syntax take every value. -/
def Instr.wellFormed : Instr → Bool
  | .trXf _ => true
  | .trAo _ => true
  | .xfHold => true
  | .xfUpd => true
  | .aoHold => true
  | .aoUpd => true
  | .blank _ _ => true
  | .wOn => true
  | .wRem => true
  | .cOn => true
  | .cRem => true

/-- An input word has DIM_W + 2 bits (R52). -/
def Config.inputWellFormed (c : Config) (w : Nat) : Bool := decide (w < 2 ^ (c.dimW.toNat + 2))

/-- A ROM word is in range: a two's-complement integer in [-16384, 16384] (20_memory.md R41). -/
def romWordInRange (w : RomWord) : Bool := decide (-16384 ≤ w.toInt) && decide (w.toInt ≤ 16384)

/-- Indices 0..N-1 are all populated and nothing else is (R40), and every word is in range (R41). -/
def Config.romWellFormed (c : Config) : Bool :=
  decide (c.rom.length = c.tableN.toNat) && c.rom.all romWordInRange

end Sys2Proof
end

