-- ==== Sys2Proof/Decode.lean ====
section
/-! DEFINITION. The decoders of the tick decision word and of the cycle phase code (30_encoding.md R58, R62), the encoders beside
them, the opcode table's rows (R75), and the model's own container that names a word's format (log 6). -/

namespace Sys2Proof

/-- Why a container byte is refused; no TDW and no CPC is ever refused (R73). -/
inductive DecodeError where
  /-- No byte is left. -/
  | empty
  /-- A bit above the format bit is set. -/
  | reservedBits
  deriving DecidableEq, Repr

/-- The tick operation a TDW selects: bits CHG, UPD, MD (R58). -/
def decodeTdw (w : Word3) : Instr :=
  match w.getLsbD 2, w.getLsbD 1, w.getLsbD 0 with
  | true, upd, false => .trXf upd
  | true, upd, true => .trAo upd
  | false, false, false => .xfHold
  | false, true, false => .xfUpd
  | false, false, true => .aoHold
  | false, true, true => .aoUpd

/-- The cycle operation a CPC selects: bits BLK, HALF, ACT (R62). -/
def decodeCpc (w : Word3) : Instr :=
  match w.getLsbD 2, w.getLsbD 1, w.getLsbD 0 with
  | true, half, act => .blank half act
  | false, false, true => .wOn
  | false, false, false => .wRem
  | false, true, true => .cOn
  | false, true, false => .cRem

/-- The operation a word of a given format selects. -/
def decodeWord (f : Format) (w : Word3) : Instr :=
  match f with
  | .tdw => decodeTdw w
  | .cpc => decodeCpc w

/-- The 3-bit word of an operation, in field order (R58, R62, R69). -/
def encode : Instr → Word3
  | .trXf upd => word3 true upd false
  | .trAo upd => word3 true upd true
  | .xfHold => 0b000
  | .xfUpd => 0b010
  | .aoHold => 0b001
  | .aoUpd => 0b011
  | .blank half act => word3 true half act
  | .wOn => 0b001
  | .wRem => 0b000
  | .cOn => 0b011
  | .cRem => 0b010

/-- DESIGN CHOICE (log 6): a byte that holds a word in bits 2..0 and its format in bit 3 (0 TDW, 1 CPC), since the two formats
share their values and the block itself never stores a word. -/
def encodeByte (i : Instr) : Byte :=
  match i.format with
  | .tdw => BitVec.ofNat 8 (encode i).toNat
  | .cpc => BitVec.ofNat 8 (8 + (encode i).toNat)

/-- The operation in one container byte (log 6). -/
def decodeByte (b : Byte) : Except DecodeError Instr :=
  if b.extractLsb' 4 4 = 0#4 then
    .ok (decodeWord (if b.getLsbD 3 then .cpc else .tdw) (b.extractLsb' 0 3))
  else .error .reservedBits

/-- The first operation of a byte list and the rest of the list. -/
def decode : List Byte → Except DecodeError (Instr × List Byte)
  | [] => .error .empty
  | b :: rest =>
    match decodeByte b with
    | .ok i => .ok (i, rest)
    | .error e => .error e

/-- The bytes of a number of `nbits` bits, the least significant byte first; the block has no byte order (20_memory.md R37),
and a row of the table is one byte. -/
def tableBytes (nbits w : Nat) : List Byte :=
  BitVec.ofNat 8 w :: (List.range ((nbits + 7) / 8 - 1)).map (fun k => BitVec.ofNat 8 (w / 256 ^ (k + 1)))

/-- The operation an opcode-table word of `nbits` bits stands for. The table's TDW and CPC rows share their words, so a word
with bit 3 clear is read as a TDW (log 6); a CPC row's word is read with bit 3 set. -/
def decodeTableWord (nbits w : Nat) : Option Instr :=
  match decode (tableBytes nbits w) with
  | .ok (i, []) => some i
  | .ok (_, _ :: _) => none
  | .error _ => none

/-- A row of spec/opcode_table.json (R75). -/
structure OpcodeRow where
  mnemonic : String
  format : Format
  pattern : Word3
  mask : Word3
  deriving DecidableEq, Repr

/-- A word selects the row when `w & mask == match` (R75). -/
def OpcodeRow.selects (r : OpcodeRow) (f : Format) (w : Word3) : Bool :=
  decide (r.format = f) && decide (w &&& r.mask = r.pattern)

/-- The eleven rows of spec/opcode_table.json, in its order. -/
def opcodeRows : List OpcodeRow :=
  [⟨"TR.XF", .tdw, 0b100, 0b101⟩, ⟨"TR.AO", .tdw, 0b101, 0b101⟩, ⟨"XF.HOLD", .tdw, 0b000, 0b111⟩,
   ⟨"XF.UPD", .tdw, 0b010, 0b111⟩, ⟨"AO.HOLD", .tdw, 0b001, 0b111⟩, ⟨"AO.UPD", .tdw, 0b011, 0b111⟩,
   ⟨"BLANK", .cpc, 0b100, 0b100⟩, ⟨"W.ON", .cpc, 0b001, 0b111⟩, ⟨"W.REM", .cpc, 0b000, 0b111⟩,
   ⟨"C.ON", .cpc, 0b011, 0b111⟩, ⟨"C.REM", .cpc, 0b010, 0b111⟩]

end Sys2Proof
end

