-- ==== Sys2Proof/Machine/Input.lean ====
section
/-! DEFINITION. The input word IN, DIM_W + 2 bits: rst at bit DIM_W + 1, sw at bit DIM_W, dim below (30_encoding.md R52). -/

namespace Sys2Proof

/-- Field `rst` of an input word. -/
def Config.rstOf (c : Config) (w : Nat) : Bool := w.testBit (c.dimWidth + 1)

/-- Field `sw` of an input word. -/
def Config.swOf (c : Config) (w : Nat) : Bool := w.testBit c.dimWidth

/-- Field `dim` of an input word; bits beyond the word's width are no port's (log 10). -/
def Config.dimOf (c : Config) (w : Nat) : Nat := w % 2 ^ c.dimWidth

/-- The input word of the three fields; `dim` is the low DIM_W bits of its argument. -/
def Config.packInput (c : Config) (rst sw : Bool) (dim : Nat) : Nat :=
  rst.toNat * 2 ^ (c.dimWidth + 1) + sw.toNat * 2 ^ c.dimWidth + dim % 2 ^ c.dimWidth

end Sys2Proof
end

