-- ==== Sys2Proof/Machine/Plan.lean ====
section
/-! DEFINITION. The duty-cycle calculator PLAN (42_pulse_scheduler.md R111-R118) in exact integer arithmetic (R117). -/

namespace Sys2Proof

/-- The pulse plan (w, c) in cycles (00_scope.md R14). -/
structure PulsePlan where
  w : Nat
  c : Nat
  deriving DecidableEq, Repr

/-- One bit of the square root after another, the bit of weight 2^(k-1) first: `r` is the root found so far. -/
def isqrtBits : Nat → Nat → Nat → Nat
  | 0, _, r => r
  | k + 1, n, r => isqrtBits k n (if (r + 2 ^ k) * (r + 2 ^ k) ≤ n then r + 2 ^ k else r)

/-- `isqrt(n)`: the largest r with r * r <= n (00_scope.md R10). -/
def isqrt (n : Nat) : Nat := isqrtBits (Nat.log2 n / 2 + 1) n 0

/-- `u_w = 16384 + s_q` (R112), a natural for every blend value. -/
def warmU (sq : Int) : Nat := (16384 + sq).toNat

/-- `u_c = 16384 - s_q` (R112), a natural for every blend value. -/
def coolU (sq : Int) : Nat := (16384 - sq).toNat

/-- `LIN(u)`: a linear ratio, clamped to 1.0 (R112, R113). -/
def Config.lin (c : Config) (u : Nat) : Nat := min (c.minRatio + c.maxRatio * u / 32768) 65536

/-- `G(L)`: gamma 3/2 of a Q16 ratio (R114). -/
def gamma (l : Nat) : Nat := isqrt (l * l * l / 65536)

/-- `wR` (R115). -/
def Config.warmRatio (c : Config) (sq : Int) : Nat := gamma (c.lin (warmU sq))

/-- `cR` (R115). -/
def Config.coolRatio (c : Config) (sq : Int) : Nat := gamma (c.lin (coolU sq)) * c.coolFactor / 65536

/-- `DUR(R, d)` before its clamp (R116). -/
def Config.rawDur (c : Config) (r d : Nat) : Nat := c.h * r * d / (65536 * c.maxRawN)

/-- `DUR(R, d)`: an on-duration, clamped to H - 1 (R116). -/
def Config.dur (c : Config) (r d : Nat) : Nat := min (c.rawDur r d) (c.h - 1)

/-- `PLAN(s_q, d)` (R118). -/
def Config.plan (c : Config) (sq : Int) (d : Nat) : PulsePlan :=
  ⟨c.dur (c.warmRatio sq) d, c.dur (c.coolRatio sq) d⟩

end Sys2Proof
end

