-- ==== Sys2Proof/Machine/Operands.lean ====
section
/-! DEFINITION. Operand assembly (30_encoding.md section 2): the input word of a step, the switch's target mode, the dimmer
operand, the elapsed time, the phase index, the ROM read and the lookup. -/

namespace Sys2Proof

open Machine

/-- `target(b)`: the mode a switch level selects (R63). -/
def Config.target (c : Config) (b : Bool) : Mode :=
  if (b.toNat : Int) = c.xfadeLevel then .crossfade else .allOn

/-- `idx(p) = (p div PERIOD_US) mod N` (40_waveform_table.md R79). -/
def Config.idx (c : Config) (p : Nat) : Nat := (p / c.periodUs) % c.n

/-- `MemRead(i, 2)`: the signed value of ROM word i (20_memory.md R42). The faults are those of log 9; a populated ROM has none. -/
def Config.memRead (c : Config) (i : Nat) : Except Fault Int :=
  match c.rom[i]? with
  | none => .error .romIndex
  | some w => if romWordInRange w then .ok w.toInt else .error .romWord

/-- `LOOKUP(p)` (40_waveform_table.md R80). -/
def Config.lookup (c : Config) (p : Nat) : Except Fault Int := c.memRead (c.idx p)

namespace Machine

/-- The input word of the j-th coming step (j = 0: the next one): listed, or free (log 3). -/
def State.inWordAt (s : State) (j : Nat) : Nat :=
  match s.inputs[j]? with
  | some w => w
  | none => Config.freeInputWord (s.cycle + j)

/-- `In.rst` of the j-th coming step. -/
def State.rstAt (s : State) (j : Nat) : Bool := s.cfg.rstOf (s.inWordAt j)

/-- `In.sw` of the j-th coming step. -/
def State.swAt (s : State) (j : Nat) : Bool := s.cfg.swOf (s.inWordAt j)

/-- `In.rst` of this step (R11). -/
def State.inRst (s : State) : Bool := s.rstAt 0

/-- `In.sw` of this step. -/
def State.inSw (s : State) : Bool := s.swAt 0

/-- `In.dim` of this step. -/
def State.inDim (s : State) : Nat := s.cfg.dimOf (s.inWordAt 0)

/-- `now'`: the timestamp of the cycle being entered (R65). -/
def State.nextNow (s : State) : Timestamp := s.now_us + 1

/-- `t'`: the sequencer position of the cycle being entered (10_state.md R21). -/
def State.nextT (s : State) : Nat := (s.t + 1) % s.cfg.slot

/-- `tgt = target(In.sw)` (41_phase_mode.md R87). -/
def State.tgt (s : State) : Mode := s.cfg.target s.inSw

/-- `e = (now' - last_ts) mod 2^32` (R65). -/
def State.elapsed (s : State) : Timestamp := s.nextNow - s.last_ts

/-- `dsat = min(In.dim, MAX_RAW)` (R64). -/
def State.dimSample (s : State) : Nat := min s.inDim s.cfg.maxRawN

/-- `(phase_acc + N * e) mod M` (41_phase_mode.md R93). -/
def State.advancedPhase (s : State) : Nat := (s.phase_acc + s.cfg.n * s.elapsed.toNat) % s.cfg.modulus

end Machine

end Sys2Proof
end

