-- ==== Sys2Proof/Machine/Ops.lean ====
section
/-! DEFINITION. The named operations over the registers. Each writes its registers from values of the state at the start of the step
(00_scope.md R11). The block raises no exception (60_exceptions.md R136, R140), so there is no exception entry or return among
them. -/

namespace Sys2Proof.Machine

/-- Goes on after an outcome that is a next state. -/
def andThen (r : Result) (f : State → Result) : Result :=
  match r with
  | .next s => f s
  | .fault e => .fault e
  | .refused e => .refused e

/-- `prev_sw <- In.sw`, performed by every poll step (41_phase_mode.md R87). -/
def State.recordSwitch (s : State) : State := { s with prev_sw := s.inSw }

/-- The writes TR.XF and TR.AO share beside `prev_sw` (R88, R89). -/
def State.transition (s : State) (m : Mode) : State :=
  { s with mode := m, phase_acc := 0, last_ts := s.nextNow, blank := true, plan_w := 0, plan_c := 0 }

/-- The writes of an update: phase, dimmer and timestamp (R93, R95, R96). -/
def State.update (s : State) (phase dim : Nat) : State :=
  { s with phase_acc := phase, dim_reg := dim, last_ts := s.nextNow }

/-- The writes of an AllOn update: dimmer and timestamp, not the phase (R97). -/
def State.updateFrozen (s : State) (dim : Nat) : State := { s with dim_reg := dim, last_ts := s.nextNow }

/-- `blank <- 0; plan_w <- w; plan_c <- c` (R98). -/
def State.emit (s : State) (p : PulsePlan) : State := { s with blank := false, plan_w := p.w, plan_c := p.c }

/-- The counting every non-reset step performs (10_state.md R19, R21; R103); the step's input word is used up. -/
def State.count (s : State) : State :=
  { s with now_us := s.nextNow, t := s.nextT, inputs := s.inputs.tail, cycle := s.cycle + 1 }

/-- The registers of RESET_STATE (70_reset_and_hazards.md R151, R152); the step's input word is used up. -/
def State.resetRegisters (s : State) : State :=
  { State.resetFor s.cfg with warm_o := s.warm_o, cool_o := s.cool_o, inputs := s.inputs.tail, cycle := s.cycle + 1 }

/-- Drives the outputs for the cycle (42_pulse_scheduler.md R119). -/
def State.drive (s : State) (warm cool : Bool) : State := { s with warm_o := warm, cool_o := cool }

/-- A tick operation that looks its blend value up: the state from the value, or the ROM read's fault. -/
def withBlend (q : Except Fault Int) (f : Int → State) : Result :=
  match q with
  | .ok sq => .next (f sq)
  | .error e => .fault e

end Sys2Proof.Machine
end

