-- ==== Sys2Proof/Machine/Cycle.lean ====
section
/-! DEFINITION. The five cycle operations (42_pulse_scheduler.md R122-R126): each drives the outputs of its cycle and writes no
register. -/

namespace Sys2Proof.Machine

/-- BLANK (R126): both channels off; HALF and ACT are ignored. -/
def execBlank (_half _act : Bool) (s : State) : Result := .next (s.drive false false)

/-- W.ON (R122): warm pulse. -/
def execWOn (s : State) : Result := .next (s.drive true false)

/-- W.REM (R123): remainder of the warm block. -/
def execWRem (s : State) : Result := .next (s.drive false false)

/-- C.ON (R124): cool pulse. -/
def execCOn (s : State) : Result := .next (s.drive false true)

/-- C.REM (R125): remainder of the cool block. -/
def execCRem (s : State) : Result := .next (s.drive false false)

end Sys2Proof.Machine
end

