-- ==== Sys2Proof/Machine/Tick.lean ====
section
/-! DEFINITION. The six tick operations (41_phase_mode.md R88, R89, R99-R102). Each is applied to the state at the start of the poll
step and writes the registers its rule lists; the counting of the step is Clock.lean's. -/

namespace Sys2Proof.Machine

/-- TR.XF (R88): the UPD bit is ignored (R59, R90). -/
def execTrXf (_upd : Bool) (s : State) : Result := .next (s.recordSwitch.transition .crossfade)

/-- TR.AO (R89): the UPD bit is ignored (R59, R90). -/
def execTrAo (_upd : Bool) (s : State) : Result := .next (s.recordSwitch.transition .allOn)

/-- XF.HOLD (R99): emits the plan of the held phase and dimmer. -/
def execXfHold (s : State) : Result :=
  withBlend (s.cfg.lookup s.phase_acc) fun sq => s.recordSwitch.emit (s.cfg.plan sq s.dim_reg)

/-- XF.UPD (R100): advances the phase, samples the dimmer, and emits the plan of the new values. -/
def execXfUpd (s : State) : Result :=
  withBlend (s.cfg.lookup s.advancedPhase) fun sq =>
    (s.recordSwitch.update s.advancedPhase s.dimSample).emit (s.cfg.plan sq s.dimSample)

/-- AO.HOLD (R101): the blend operand is 0 and the ROM is not read (R81). -/
def execAoHold (s : State) : Result := .next (s.recordSwitch.emit (s.cfg.plan 0 s.dim_reg))

/-- AO.UPD (R102): samples the dimmer; the phase is frozen (R97). -/
def execAoUpd (s : State) : Result :=
  .next ((s.recordSwitch.updateFrozen s.dimSample).emit (s.cfg.plan 0 s.dimSample))

end Sys2Proof.Machine
end

