-- ==== Sys2Proof/Machine/Dispatch.lean ====
section
/-! DEFINITION. The operations' meanings, one arm per constructor of Instr. -/

namespace Sys2Proof.Machine

def exec (i : Instr) (s : State) : Host.Outcome State Fault Refusal :=
  match i with
  | .trXf upd => Sys2Proof.Machine.execTrXf upd s
  | .trAo upd => Sys2Proof.Machine.execTrAo upd s
  | .xfHold => Sys2Proof.Machine.execXfHold s
  | .xfUpd => Sys2Proof.Machine.execXfUpd s
  | .aoHold => Sys2Proof.Machine.execAoHold s
  | .aoUpd => Sys2Proof.Machine.execAoUpd s
  | .blank half act => Sys2Proof.Machine.execBlank half act s
  | .wOn => Sys2Proof.Machine.execWOn s
  | .wRem => Sys2Proof.Machine.execWRem s
  | .cOn => Sys2Proof.Machine.execCOn s
  | .cRem => Sys2Proof.Machine.execCRem s

end Sys2Proof.Machine
end

