-- ==== Sys2Proof/Machine/Flags.lean ====
section
/-! DEFINITION. The block has no status flags (10_state.md R28). Its conditions are the fields of the two words it forms: CHG, UPD, MD
of the tick decision word (30_encoding.md R54-R57) and BLK, HALF, ACT of the cycle phase code (R60). -/

namespace Sys2Proof.Machine

/-- CHG: the switch's target mode differs from `mode` (R55). -/
def State.chg (s : State) : Bool := decide (s.tgt ≠ s.mode)

/-- UPD: the elapsed time has reached the update interval (R56). -/
def State.upd (s : State) : Bool := decide (s.cfg.interval ≤ s.elapsed.toNat)

/-- MD: the target mode (R57). -/
def State.md (s : State) : Bool := s.tgt.toBit

/-- The tick decision word of a poll step (R54). -/
def State.tdw (s : State) : Word3 := word3 s.chg s.upd s.md

/-- HALF: the cycle lies in the cool block (R60). -/
def State.half (s : State) : Bool := decide (s.cfg.h ≤ s.t)

/-- ACT: the block's pulse is on (R60). -/
def State.act (s : State) : Bool :=
  if s.half then decide (s.t - s.cfg.h < s.plan_c) else decide (s.t < s.plan_w)

/-- The cycle phase code of a state (R60); BLK is `blank`. -/
def State.cpc (s : State) : Word3 := word3 s.blank s.half s.act

end Sys2Proof.Machine
end

