-- ==== Sys2Proof/Machine/Clock.lean ====
section
/-! DEFINITION. One clock edge and the cycle it enters (41_phase_mode.md R104, R103; 42_pulse_scheduler.md R119). -/

namespace Sys2Proof.Machine

/-- The cycle operation of a state: its CPC decoded and performed (R62, R119). A CPC is formed in every state (30_encoding.md R74). -/
def driveOutputs (s : State) : Result := exec (decodeCpc s.cpc) s

/-- The tick operation of a poll step: its TDW decoded and performed on the state at the start of the step (R58). -/
def tickOperation (s : State) : Result := exec (decodeTdw s.tdw) s

/-- A non-reset step takes `t` to 0: it is a poll step (R86). -/
def State.polls (s : State) : Bool := decide (s.nextT = 0)

/-- The clock edge (R104): reset before anything (60_exceptions.md R139), else counting, with one tick operation at a poll; then
the outputs of the cycle entered (log 5). -/
def clockEdge (s : State) : Result :=
  if s.inRst then driveOutputs s.resetRegisters
  else if s.polls then andThen (tickOperation s) fun s1 => driveOutputs s1.count
  else driveOutputs s.count

end Sys2Proof.Machine
end

