-- ==== Sys2Proof/Machine/Fetch.lean ====
section
/-! DEFINITION. The block fetches nothing (20_memory.md R36): an operation is performed when the state and the inputs form its
word. Here: making a state whose next step forms a given word (log 7). -/

namespace Sys2Proof.Machine

/-- A switch level whose target is Crossfade (`md` false) or AllOn (`md` true), for a legal XFADE_LEVEL (30_encoding.md R63). -/
def levelForMode (c : Config) (md : Bool) : Bool := xor md (decide (c.xfadeLevel = 1))

/-- The mode of a numeric value (10_state.md R22). -/
def Mode.ofBit (b : Bool) : Mode := if b then .allOn else .crossfade

/-- The next input word gets `rst` = 0 and the given switch level; its dimmer sample is that of the word listed before (0 where
none is), and the later words stay. -/
def State.presentInput (s : State) (sw : Bool) : State :=
  { s with inputs := s.cfg.packInput false sw (s.cfg.dimOf (s.inputs.headD 0)) :: s.inputs.tail }

/-- The next step is a poll that forms the TDW (chg, upd, md): `t` at SLOT - 1, the switch at the target's level, `mode` equal
to the target or not, and `last_ts` so that the elapsed time is I or 0. UPD = 0 needs I > 0 (30_encoding.md R56). -/
def State.arrangeTdw (s : State) (chg upd md : Bool) : State :=
  { s.presentInput (levelForMode s.cfg md) with
    t := s.cfg.slot - 1
    mode := Mode.ofBit (xor chg md)
    last_ts := if s.upd = upd then s.last_ts
      else if upd then s.nextNow - BitVec.ofNat 32 s.cfg.interval else s.nextNow }

/-- The next step is no poll and enters a cycle whose CPC is (blk, half, act): the second cycle of the warm block or the first of
the cool block. Needs H > 1 for the warm block. -/
def State.arrangeCpc (s : State) (blk half act : Bool) : State :=
  { s.presentInput (s.cfg.swOf (s.inputs.headD 0)) with
    t := if half then s.cfg.h - 1 else 0
    blank := blk
    plan_w := if act then 2 else 0
    plan_c := if act then 1 else 0 }

/-- The state whose next step forms the word of an operation. -/
def State.arrange (s : State) (i : Instr) : State :=
  match i.format with
  | .tdw => s.arrangeTdw ((encode i).getLsbD 2) ((encode i).getLsbD 1) ((encode i).getLsbD 0)
  | .cpc => s.arrangeCpc ((encode i).getLsbD 2) ((encode i).getLsbD 1) ((encode i).getLsbD 0)

end Sys2Proof.Machine
end

