-- ==== Sys2Proof/Machine/Step.lean ====
section
/-! DEFINITION. One step of the block: an illegal configuration is refused (00_scope.md R9), any other takes a clock edge
(41_phase_mode.md R104). -/

namespace Sys2Proof.Machine

/-- One clock cycle of the block. -/
def step (s : State) : Host.Outcome State Fault Refusal :=
  match s.cfg.refusal with
  | some r => .refused r
  | none => clockEdge s

/-- The state whose very next step performs the operation of an opcode-table word (log 7). -/
def State.withFetchWord (s : State) (nbits w : Nat) : State :=
  match decodeTableWord nbits w with
  | some i => s.arrange i
  | none => s

end Sys2Proof.Machine
end

