-- ==== Sys2Proof/Machine/PowerUp.lean ====
section
/-! DEFINITION. The state before the first reset (70_reset_and_hazards.md R157, also after a power loss, R160): every register holds
any value of its width, and the outputs are unspecified. Each is a free value (log 11). -/

namespace Sys2Proof.Machine

/-- The block at power-up, before any step with `rst` = 1. -/
def State.powerUp (c : Config) : State where
  cfg := c
  now_us := BitVec.ofNat 32 (Config.powerUpValue 0)
  t := Config.powerUpValue 1 % 2 ^ c.slotW
  mode := if (Config.powerUpValue 2).testBit 0 then .allOn else .crossfade
  prev_sw := (Config.powerUpValue 3).testBit 0
  phase_acc := Config.powerUpValue 4 % 2 ^ c.phW
  last_ts := BitVec.ofNat 32 (Config.powerUpValue 5)
  dim_reg := Config.powerUpValue 6 % 2 ^ c.dimW.toNat
  blank := (Config.powerUpValue 7).testBit 0
  plan_w := Config.powerUpValue 8 % 2 ^ c.durW
  plan_c := Config.powerUpValue 9 % 2 ^ c.durW
  warm_o := (Config.powerUpValue 10).testBit 0
  cool_o := (Config.powerUpValue 11).testBit 0
  inputs := []
  cycle := 0

end Sys2Proof.Machine
end

