-- ==== Sys2Proof/Machine/Stimulus.lean ====
section
/-! DEFINITION. Stimulus programs: the statements of 30_encoding.md R70, the pseudo-statements of R71, and their input words (R72). -/

namespace Sys2Proof.Machine

/-- The parameters a `config` statement overrides (00_scope.md R6). -/
inductive Parameter where
  | N
  | CYCLE_PERIOD_MS
  | H
  | I
  | DIM_W
  | MAX_RAW
  | MIN_RATIO_Q16
  | MAX_RATIO_Q16
  | COOL_FACTOR_Q16
  | XFADE_LEVEL
  deriving DecidableEq, Repr

/-- `config <NAME>=<value>`; the ROM image is a field of its own (40_waveform_table.md R85). -/
def Config.override (c : Config) : Parameter → Int → Config
  | .N, v => { c with tableN := v }
  | .CYCLE_PERIOD_MS, v => { c with cyclePeriodMs := v }
  | .H, v => { c with halfPeriodUs := v }
  | .I, v => { c with updateIntervalUs := v }
  | .DIM_W, v => { c with dimW := v }
  | .MAX_RAW, v => { c with maxRaw := v }
  | .MIN_RATIO_Q16, v => { c with minRatioQ16 := v }
  | .MAX_RATIO_Q16, v => { c with maxRatioQ16 := v }
  | .COOL_FACTOR_Q16, v => { c with coolFactorQ16 := v }
  | .XFADE_LEVEL, v => { c with xfadeLevel := v }

/-- The input statements of R70 and R71. -/
inductive Stimulus where
  /-- `cycle rst=<0|1> sw=<0|1> dim=<n>`: one step with this input word. -/
  | cycle (rst sw : Bool) (dim : Nat)
  /-- `reset`. -/
  | reset
  /-- `cycles <n> sw=<b> dim=<d>`. -/
  | cycles (n : Nat) (sw : Bool) (dim : Nat)
  /-- `tick sw=<b> dim=<d>`. -/
  | tick (sw : Bool) (dim : Nat)
  /-- `ticks <k> sw=<b> dim=<d>`. -/
  | ticks (k : Nat) (sw : Bool) (dim : Nat)
  deriving DecidableEq, Repr

/-- The input words of a statement, in order (R71, R72). -/
def Stimulus.words (c : Config) : Stimulus → List Nat
  | .cycle rst sw dim => [c.packInput rst sw dim]
  | .reset => [c.packInput true false 0]
  | .cycles n sw dim => List.replicate n (c.packInput false sw dim)
  | .tick sw dim => List.replicate c.slot (c.packInput false sw dim)
  | .ticks k sw dim => (List.replicate k (List.replicate c.slot (c.packInput false sw dim))).flatten

/-- A stimulus program: `config` lines, an optional `start` state, input statements (R70). -/
structure StimulusProgram where
  overrides : List (Parameter × Int)
  rom : List RomWord
  start : Option State
  body : List Stimulus
  deriving DecidableEq, Repr

/-- The configuration of a program: the defaults of R6 with its overrides and its ROM image. -/
def StimulusProgram.config (p : StimulusProgram) : Config :=
  p.overrides.foldl (fun c o => Config.override c o.1 o.2) { Config.default with rom := p.rom }

/-- The state a program's first step starts from: its `start` registers, else the power-up state (R70; 70_reset_and_hazards.md
R157), with all its input words listed. -/
def StimulusProgram.load (p : StimulusProgram) : State :=
  { p.start.getD (State.powerUp p.config) with
    cfg := p.config, inputs := (p.body.map (Stimulus.words p.config)).flatten }

end Sys2Proof.Machine
end

