-- ==== Sys2Proof/Machine/Reference.lean ====
section
/-! DEFINITION. The output function as 42_pulse_scheduler.md R119 writes it and the complete step function as 41_phase_mode.md R104
writes it, one text each, beside the machine's own route through the decoded words. They are what claims compare the machine
with; the machine does not use them. -/

namespace Sys2Proof.Machine

/-- `Out(σ)` = (warm_o, cool_o) (R119). -/
def State.out (s : State) : Bool × Bool :=
  if s.blank then (false, false)
  else if s.t < s.cfg.h then (decide (s.t < s.plan_w), false)
  else (false, decide (s.t - s.cfg.h < s.plan_c))

/-- `Step(σ, In)` on the registers (R104); the fault is the ROM read's, which a populated ROM does not have. -/
def referenceRegisters (s : State) : Except Fault State :=
  let s0 := { s with inputs := s.inputs.tail, cycle := s.cycle + 1 }
  if s.inRst then
    .ok { s0 with
      now_us := 0xFFFFFFFF#32, t := s.cfg.slot - 1, mode := .crossfade, prev_sw := decide (s.cfg.xfadeLevel = 1)
      phase_acc := 0, last_ts := 0, dim_reg := 0, blank := true, plan_w := 0, plan_c := 0 }
  else
    let now' := s.now_us + 1
    let t' := (s.t + 1) % s.cfg.slot
    let s1 := { s0 with now_us := now', t := t' }
    if t' ≠ 0 then .ok s1
    else
      let tgt := s.cfg.target s.inSw
      let s2 := { s1 with prev_sw := s.inSw }
      if tgt ≠ s.mode then
        .ok { s2 with mode := tgt, phase_acc := 0, last_ts := now', blank := true, plan_w := 0, plan_c := 0 }
      else
        let e := (now' - s.last_ts).toNat
        let ph' := if s.cfg.interval ≤ e ∧ s.mode = .crossfade then (s.phase_acc + s.cfg.n * e) % s.cfg.modulus
          else s.phase_acc
        let d' := if s.cfg.interval ≤ e then min s.inDim s.cfg.maxRawN else s.dim_reg
        let ts' := if s.cfg.interval ≤ e then now' else s.last_ts
        match (if s.mode = .allOn then Except.ok 0 else s.cfg.lookup ph') with
        | .error f => .error f
        | .ok sq =>
          .ok { s2 with
            phase_acc := ph', dim_reg := d', last_ts := ts', blank := false
            plan_w := (s.cfg.plan sq d').w, plan_c := (s.cfg.plan sq d').c }

/-- R104 with the outputs of the cycle entered (R119). -/
def referenceStep (s : State) : Result :=
  match referenceRegisters s with
  | .error f => .fault f
  | .ok s1 => .next { s1 with warm_o := s1.out.1, cool_o := s1.out.2 }

end Sys2Proof.Machine
end

