-- ==== Sys2Proof/Safety.lean ====
section
/-! DEFINITION. What claims are stated in: legal blocks, the invariants of 10_state.md R32 and R34, the tick grid
(41_phase_mode.md R106), the non-overlap of the outputs (42_pulse_scheduler.md R121) and runs. -/

namespace Sys2Proof

/-- A block exists for the configuration: its parameters are legal (00_scope.md R9) and its ROM is populated with words in range
(20_memory.md R40, R41). -/
def Config.Block (c : Config) : Prop := c.refusal = none ∧ c.romWellFormed = true

/-- The condition of each refusal reason, as 60_exceptions.md R137 lists it; the one reason that is not in its table
(an operation with no meaning, which does not arise) has none. -/
def Config.MeetsCondition (c : Config) : Machine.Refusal → Prop
  | .CFG_TABLE_N => c.tableN < 1
  | .CFG_CYCLE_PERIOD => c.cyclePeriodMs < 1
  | .CFG_HALF_PERIOD => c.halfPeriodUs < 1
  | .CFG_UPDATE_INTERVAL => c.updateIntervalUs < 0 ∨ 2 ^ 32 - 1 < c.updateIntervalUs + 2 * c.halfPeriodUs
  | .CFG_DIMMER => c.dimW < 1 ∨ 32 < c.dimW ∨ c.maxRaw < 1 ∨ 2 ^ c.dimW.toNat - 1 < c.maxRaw
  | .CFG_RATIO =>
    (c.minRatioQ16 < 0 ∨ 65536 < c.minRatioQ16) ∨ (c.maxRatioQ16 < 0 ∨ 65536 < c.maxRatioQ16) ∨
      (c.coolFactorQ16 < 0 ∨ 65536 < c.coolFactorQ16)
  | .CFG_XFADE_LEVEL => c.xfadeLevel ≠ 0 ∧ c.xfadeLevel ≠ 1
  | _ => False

namespace Machine

/-- k steps from a state, stopping at the first fault or refusal. -/
def runs : Nat → State → Result
  | 0, s => .next s
  | k + 1, s => andThen (step s) (runs k)

/-- The outputs are never both 1 (R121). -/
def State.NonOverlap (s : State) : Prop := ¬ (s.warm_o = true ∧ s.cool_o = true)

/-- The output ports show the output function of the state: a Moore machine (10_state.md R15; R119). -/
def State.OutputsShown (s : State) : Prop := (s.warm_o, s.cool_o) = s.out

/-- The invariants of R32 (a) to (f), with the outputs shown. -/
structure State.Inv (s : State) : Prop where
  t_in_tick : s.t < s.cfg.slot
  phase_below_modulus : s.phase_acc < s.cfg.modulus
  plan_w_below_half : s.plan_w ≤ s.cfg.h - 1
  plan_c_below_half : s.plan_c ≤ s.cfg.h - 1
  dimmer_saturated : s.dim_reg ≤ s.cfg.maxRawN
  switch_agrees : s.cfg.target s.prev_sw = s.mode
  blank_plan_zero : s.blank = true → s.plan_w = 0 ∧ s.plan_c = 0
  allOn_phase_zero : s.mode = .allOn → s.phase_acc = 0
  outputs_shown : s.OutputsShown

/-- Every register fits its width (10_state.md R18, R34); those of fixed width do by their type. -/
structure State.FitsWidths (s : State) : Prop where
  t_fits : s.t < 2 ^ s.cfg.slotW
  phase_acc_fits : s.phase_acc < 2 ^ s.cfg.phW
  dim_reg_fits : s.dim_reg < 2 ^ s.cfg.dimWidth
  plan_w_fits : s.plan_w < 2 ^ s.cfg.durW
  plan_c_fits : s.plan_c < 2 ^ s.cfg.durW

/-- The tick grid: the elapsed time the next cycle would see is the next position modulo SLOT, and is at most I plus the cycles of
the tick up to the next position (R106, 70_reset_and_hazards.md R167). -/
structure State.OnGrid (s : State) : Prop where
  t_in_tick : s.t < s.cfg.slot
  elapsed_on_grid : s.elapsed.toNat % s.cfg.slot = s.nextT
  elapsed_bounded : s.elapsed.toNat ≤ s.cfg.interval + (s.t + 1)

/-- None of the next k steps is a reset step. -/
def State.NoResetFor (s : State) (k : Nat) : Prop := ∀ j, j < k → s.rstAt j = false

/-- At every poll among the next k steps the switch is at a level of target m; between polls it may be anywhere, since the block reads
it at polls only (41_phase_mode.md R86). -/
def State.PollsTarget (s : State) (k : Nat) (m : Mode) : Prop :=
  ∀ j, j < k → (s.t + 1 + j) % s.cfg.slot = 0 → s.cfg.target (s.swAt j) = m

/-- The number of ticks between updates without transitions: U = max(1, ceil(I / SLOT)) (R106). -/
def updateTicks (c : Config) : Nat := max 1 ((c.interval + c.slot - 1) / c.slot)

/-- Two states agree on configuration, registers and outputs; their inputs may differ. -/
def State.SameRegisters (a b : State) : Prop :=
  { a with inputs := [], cycle := 0 } = { b with inputs := [], cycle := 0 }

/-- Elapsed times applied one after another to an accumulator (41_phase_mode.md R93). -/
def advanceAll (c : Config) (p : Nat) (es : List Nat) : Nat :=
  es.foldl (fun q e => (q + c.n * e) % c.modulus) p

end Machine

end Sys2Proof
end

