-- ==== Sys2Proof/Certificates/Slice0/Obligations.lean ====
section
/-! DEFINITION. The statements for the provers. Each docstring says which rule of spec/ a statement formalises. Where the spec marks a
rule as its own inference ([derived ...]) the docstring names that sentence as the spec's inference. -/

open Sys2Proof Sys2Proof.Machine

/-! ## The formats and the decoders -/

/-- 30_encoding.md R58, R62: decoding the container byte of an operation gives the operation and leaves the rest. The container is
the model's choice (log 6). -/
def Obligations.DecodeAfterEncodeGivesOperation : Prop :=
  ∀ (i : Instr) (rest : List Byte), i.wellFormed = true → decode (encodeByte i :: rest) = .ok (i, rest)

/-- 30_encoding.md R58, R62: no bit of a word is dropped, and a word decodes within its format. -/
def Obligations.EncodeAfterDecodeGivesWord : Prop :=
  ∀ (f : Format) (w : Word3), encode (decodeWord f w) = w ∧ (decodeWord f w).format = f

/-- 30_encoding.md R75, R73 (R73 is the spec's inference): within a format exactly one row of the opcode table selects a word, and
it is the row of the decoded operation. -/
def Obligations.ExactlyOneTableRowSelectsEachWord : Prop :=
  ∀ (f : Format) (w : Word3),
    (opcodeRows.filter (fun r => r.selects f w)).map OpcodeRow.mnemonic = [(decodeWord f w).mnemonic]

/-- 30_encoding.md R58, R62, R69: words written out from the tables decode to their operations. -/
def Obligations.SampleWordsDecode : Prop :=
  decodeTdw 0b100 = .trXf false ∧ decodeTdw 0b111 = .trAo true ∧ decodeTdw 0b010 = .xfUpd ∧
    decodeCpc 0b110 = .blank true false ∧ decodeCpc 0b001 = .wOn ∧ decodeCpc 0b010 = .cRem

/-- 30_encoding.md R52: rst at bit DIM_W + 1, sw at bit DIM_W, dim below, in DIM_W + 2 bits. -/
def Obligations.InputWordFieldsReadBack : Prop :=
  ∀ (c : Config) (rst sw : Bool) (dim : Nat), dim < 2 ^ c.dimWidth →
    c.packInput rst sw dim < 2 ^ (c.dimWidth + 2) ∧
    (c.packInput rst sw dim).testBit (c.dimWidth + 1) = rst ∧
    (c.packInput rst sw dim).testBit c.dimWidth = sw ∧
    c.packInput rst sw dim % 2 ^ c.dimWidth = dim ∧
    c.rstOf (c.packInput rst sw dim) = rst ∧ c.swOf (c.packInput rst sw dim) = sw ∧
    c.dimOf (c.packInput rst sw dim) = dim

/-- 30_encoding.md R70-R72: a `cycle` statement is one step with its input word, the pseudo-statements are the `cycle` lines they stand
for, and the default words are those of R72. -/
def Obligations.StimulusStatementsExpand : Prop :=
  (∀ (c : Config) (rst sw : Bool) (d n k : Nat),
    Stimulus.words c (.cycle rst sw d) = [c.packInput rst sw d] ∧
    Stimulus.words c .reset = Stimulus.words c (.cycle true false 0) ∧
    Stimulus.words c (.cycles n sw d) = (List.replicate n (Stimulus.words c (.cycle false sw d))).flatten ∧
    (Stimulus.words c (.cycles n sw d)).length = n ∧
    Stimulus.words c (.tick sw d) = Stimulus.words c (.cycles c.slot sw d) ∧
    Stimulus.words c (.ticks 0 sw d) = [] ∧
    Stimulus.words c (.ticks (k + 1) sw d) = Stimulus.words c (.tick sw d) ++ Stimulus.words c (.ticks k sw d)) ∧
  Stimulus.words Config.default (.cycle false false 1023) = [0x3FF] ∧
  Stimulus.words Config.default (.cycle false true 512) = [0x600] ∧
  Stimulus.words Config.default .reset = [0x800]

/-- 30_encoding.md R54-R57 (R57 is the spec's inference): the bits of the tick decision word. -/
def Obligations.TickDecisionWordBits : Prop :=
  ∀ s : State,
    (s.tdw.getLsbD 2 = true ↔ s.cfg.target s.inSw ≠ s.mode) ∧
    (s.tdw.getLsbD 1 = true ↔ s.cfg.interval ≤ s.elapsed.toNat) ∧
    (s.tdw.getLsbD 0 = true ↔ s.cfg.target s.inSw = .allOn) ∧
    (s.tdw.getLsbD 2 = false → s.tdw.getLsbD 0 = s.mode.toBit)

/-- 30_encoding.md R58: which operation a poll selects, by mode, target and elapsed time against the interval. -/
def Obligations.TickOperationByConditions : Prop :=
  ∀ s : State,
    (s.tgt ≠ s.mode → s.tgt = .crossfade → ∃ u, decodeTdw s.tdw = .trXf u) ∧
    (s.tgt ≠ s.mode → s.tgt = .allOn → ∃ u, decodeTdw s.tdw = .trAo u) ∧
    (s.tgt = s.mode → s.mode = .crossfade → s.elapsed.toNat < s.cfg.interval → decodeTdw s.tdw = .xfHold) ∧
    (s.tgt = s.mode → s.mode = .crossfade → s.cfg.interval ≤ s.elapsed.toNat → decodeTdw s.tdw = .xfUpd) ∧
    (s.tgt = s.mode → s.mode = .allOn → s.elapsed.toNat < s.cfg.interval → decodeTdw s.tdw = .aoHold) ∧
    (s.tgt = s.mode → s.mode = .allOn → s.cfg.interval ≤ s.elapsed.toNat → decodeTdw s.tdw = .aoUpd)

/-- 30_encoding.md R60: the bits of the cycle phase code. -/
def Obligations.CyclePhaseCodeBits : Prop :=
  ∀ s : State,
    s.cpc.getLsbD 2 = s.blank ∧
    (s.cpc.getLsbD 1 = true ↔ s.cfg.h ≤ s.t) ∧
    (s.t < s.cfg.h → (s.cpc.getLsbD 0 = true ↔ s.t < s.plan_w)) ∧
    (s.cfg.h ≤ s.t → (s.cpc.getLsbD 0 = true ↔ s.t - s.cfg.h < s.plan_c))

/-! ## Operands -/

/-- 30_encoding.md R63, R64: the level XFADE_LEVEL selects Crossfade, the other AllOn, with no filtering of the level the step is given; the
dimmer operand is the smaller of the sample and MAX_RAW, the sample itself when MAX_RAW is full scale. That the input word of the j-th
coming step is the j-th word State lists is the model's choice (log 3); its fields are those of R52. -/
def Obligations.SwitchAndDimmerOperands : Prop :=
  ∀ s : State,
    (((s.inSw.toNat : Nat) : Int) = s.cfg.xfadeLevel → s.tgt = .crossfade) ∧
    (((s.inSw.toNat : Nat) : Int) ≠ s.cfg.xfadeLevel → s.tgt = .allOn) ∧
    s.dimSample = min s.inDim s.cfg.maxRawN ∧ (s.cfg.maxRawN = 2 ^ s.cfg.dimWidth - 1 → s.dimSample = s.inDim) ∧
    (∀ w ws, s.inputs = w :: ws → s.inRst = s.cfg.rstOf w ∧ s.inSw = s.cfg.swOf w ∧ s.inDim = s.cfg.dimOf w) ∧
    (∀ j w, s.inputs[j]? = some w → s.rstAt j = s.cfg.rstOf w ∧ s.swAt j = s.cfg.swOf w)

/-- 30_encoding.md R65: the elapsed time is the unsigned 32-bit difference of the entered cycle's timestamp and `last_ts`. -/
def Obligations.ElapsedTimeIsModularDifference : Prop :=
  ∀ s : State, s.nextNow.toNat = (s.now_us.toNat + 1) % 2 ^ 32 ∧
    ((s.elapsed.toNat : Nat) : Int) = (((s.nextNow.toNat : Nat) : Int) - ((s.last_ts.toNat : Nat) : Int)) % 2 ^ 32

/-- 40_waveform_table.md R79: the index is the floor of the accumulator over PERIOD_US, below N, and the modulo changes nothing below M
(the last is the spec's inference). -/
def Obligations.PhaseIndexIsFloor : Prop :=
  ∀ c : Config, c.refusal = none →
    (∀ p, c.idx p < c.n) ∧ (∀ p, p < c.modulus → c.idx p = p / c.periodUs) ∧
    (∀ k r, k < c.n → r < c.periodUs → c.idx (k * c.periodUs + r) = k)

/-- 40_waveform_table.md R80, 20_memory.md R42: a lookup in a block answers the signed value of the word at the index, a blend value. -/
def Obligations.LookupReadsTheRom : Prop :=
  ∀ (c : Config) (p : Nat), c.Block →
    ∃ w, c.rom[(p / c.periodUs) % c.n]? = some w ∧ c.lookup p = .ok w.toInt ∧ -16384 ≤ w.toInt ∧ w.toInt ≤ 16384

/-- 93_implementation_defined.md I2, 20_memory.md R41 (how the model words the two stops is log 9): where no word is stored at the index, or
a word out of R41's range, a Crossfade operation that reads it stops with a fault of that name; no block has such a ROM. -/
def Obligations.RomReadStopsOutsideTheTable : Prop :=
  ∀ s : State,
    (s.cfg.rom[s.cfg.idx s.phase_acc]? = none → exec .xfHold s = .fault .romIndex) ∧
    (s.cfg.rom[s.cfg.idx s.advancedPhase]? = none → exec .xfUpd s = .fault .romIndex) ∧
    (∀ w, w.toInt < -16384 ∨ 16384 < w.toInt →
      (s.cfg.rom[s.cfg.idx s.phase_acc]? = some w → exec .xfHold s = .fault .romWord) ∧
      (s.cfg.rom[s.cfg.idx s.advancedPhase]? = some w → exec .xfUpd s = .fault .romWord)) ∧
    (s.cfg.Block → s.cfg.rom[s.cfg.idx s.phase_acc]? ≠ none ∧ s.cfg.rom[s.cfg.idx s.advancedPhase]? ≠ none)

/-! ## The ROM contents -/

/-- 40_waveform_table.md R77 (the spec's inference from R76): every entry is within 2^-15 of the sine. -/
def Obligations.RomEntriesWithinEpsilon : Prop :=
  ∀ c : Config, c.RomLaw → ∀ i : Nat, (i : Int) < c.tableN →
    ∃ w, c.rom[i]? = some w ∧ |((w.toInt : Int) : ℝ) / 16384 - Real.sin (2 * Real.pi * i / c.tableN)| ≤ 1 / 32768

/-- 40_waveform_table.md R78 (the spec's inference from R76): the exact entries and the symmetries, for entries read as integers. -/
def Obligations.RomExactEntriesAndSymmetries : Prop :=
  ∀ c : Config, c.RomLaw → 1 ≤ c.tableN →
    (∃ w, c.rom[0]? = some w ∧ w.toInt = 0) ∧
    (4 ∣ c.n → (∃ w, c.rom[c.n / 4]? = some w ∧ w.toInt = 16384) ∧
      ∃ w, c.rom[3 * c.n / 4]? = some w ∧ w.toInt = -16384) ∧
    (2 ∣ c.n → (∃ w, c.rom[c.n / 2]? = some w ∧ w.toInt = 0) ∧
      ∀ i, i < c.n → ∃ v w, c.rom[i]? = some v ∧ c.rom[(i + c.n / 2) % c.n]? = some w ∧ w.toInt = - v.toInt) ∧
    (∀ i, i < c.n → ∃ v w, c.rom[i]? = some v ∧ c.rom[(c.n - i) % c.n]? = some w ∧ w.toInt = - v.toInt) ∧
    (12 ∣ c.n → ∃ w, c.rom[c.n / 12]? = some w ∧ w.toInt = 8192)

/-! ## The duty-cycle calculator -/

/-- 42_pulse_scheduler.md R112: the linear ratios, from the parameters as integers, and their range. -/
def Obligations.LinearRatiosFollowParameters : Prop :=
  ∀ (c : Config) (sq : Int), c.refusal = none → -16384 ≤ sq → sq ≤ 16384 →
    ((c.lin (warmU sq) : Nat) : Int) = min (c.minRatioQ16 + c.maxRatioQ16 * (16384 + sq) / 32768) 65536 ∧
    ((c.lin (coolU sq) : Nat) : Int) = min (c.minRatioQ16 + c.maxRatioQ16 * (16384 - sq) / 32768) 65536 ∧
    c.lin (warmU sq) ≤ 65536 ∧ c.lin (coolU sq) ≤ 65536

/-- 42_pulse_scheduler.md R113 (thresholds are the spec's inference): with the defaults the clamp is reached exactly from u = 31444 on,
and it never changes a value when MIN_RATIO_Q16 + MAX_RATIO_Q16 is at most 1.0. -/
def Obligations.LinearClampThreshold : Prop :=
  (∀ u, u ≤ 32768 → (Config.default.lin u = 65536 ↔ 31444 ≤ u)) ∧
  (∀ (c : Config) (u : Nat), c.minRatio + c.maxRatio ≤ 65536 → u ≤ 32768 →
    c.lin u = c.minRatio + c.maxRatio * u / 32768)

/-- 42_pulse_scheduler.md R114 (the real form is the spec's inference): G is the floor of the 3/2 power, with its corner cases. For
L above 65536 the square-root form and monotonicity are the model's choice (log 15). -/
def Obligations.GammaIsFloorOfThreeHalvesPower : Prop :=
  (∀ l : Nat, l ≤ 65536 →
    ((gamma l : Nat) : Int) = ⌊(65536 : ℝ) * ((l : ℝ) / 65536) ^ ((3 : ℝ) / 2)⌋) ∧
  (∀ l : Nat, gamma l * gamma l ≤ l * l * l / 65536 ∧ l * l * l / 65536 < (gamma l + 1) * (gamma l + 1)) ∧
  (∀ l, l ≤ 40 → gamma l = 0) ∧ gamma 16384 = 8192 ∧ gamma 65535 = 65534 ∧ gamma 65536 = 65536 ∧
  (∀ a b, a ≤ b → gamma a ≤ gamma b)

/-- 42_pulse_scheduler.md R118: the plan as its pseudocode computes it from the parameters, the square roots given by what they are. -/
def Obligations.PlanFollowsPseudocode : Prop :=
  ∀ (c : Config) (sq : Int) (d : Nat), c.refusal = none → -16384 ≤ sq → sq ≤ 16384 → d ≤ c.maxRawN →
    ∃ wLin cLin gw gc : Nat,
      (wLin : Int) = min (c.minRatioQ16 + c.maxRatioQ16 * (16384 + sq) / 32768) 65536 ∧
      (cLin : Int) = min (c.minRatioQ16 + c.maxRatioQ16 * (16384 - sq) / 32768) 65536 ∧
      gw * gw ≤ wLin * wLin * wLin / 65536 ∧ wLin * wLin * wLin / 65536 < (gw + 1) * (gw + 1) ∧
      gc * gc ≤ cLin * cLin * cLin / 65536 ∧ cLin * cLin * cLin / 65536 < (gc + 1) * (gc + 1) ∧
      (((c.plan sq d).w : Nat) : Int) =
        min (c.halfPeriodUs * gw * d / (65536 * c.maxRaw)) (c.halfPeriodUs - 1) ∧
      (((c.plan sq d).c : Nat) : Int) =
        min (c.halfPeriodUs * (gc * c.coolFactorQ16 / 65536) * d / (65536 * c.maxRaw)) (c.halfPeriodUs - 1)

/-- 42_pulse_scheduler.md R127 (the spec's inference from R116): both durations lie in [0, H - 1]; R118's corner cases: dark at d = 0 and at
H = 1. It says so of every blend and dimmer operand; outside the ranges R127 and R118 give it is the model's choice (log 15). -/
def Obligations.PlanDurationBounds : Prop :=
  ∀ (c : Config) (sq : Int) (d : Nat), c.refusal = none →
    (c.plan sq d).w < c.h ∧ (c.plan sq d).c < c.h ∧ c.plan sq 0 = ⟨0, 0⟩ ∧ (c.h = 1 → c.plan sq d = ⟨0, 0⟩)

/-- 42_pulse_scheduler.md R116 (its last sentences are the spec's inference): ratios are at most 1.0, and the clamp changes a duration
exactly at full ratio and full dimmer, where it would be H. The ratios' bound outside R118's range of blend operands is the model's
choice (log 15). -/
def Obligations.DurationClampOnlyAtFullScale : Prop :=
  ∀ c : Config, c.refusal = none →
    (∀ sq : Int, c.warmRatio sq ≤ 65536 ∧ c.coolRatio sq ≤ 65536) ∧
    (∀ r d, r ≤ 65536 → d ≤ c.maxRawN → (c.dur r d ≠ c.rawDur r d ↔ r = 65536 ∧ d = c.maxRawN)) ∧
    c.rawDur 65536 c.maxRawN = c.h

/-- 42_pulse_scheduler.md R128 (the spec's inference): at the zero crossing the linear ratios agree, the cool ratio is below the warm one, the
cool duration not above the warm one; with the defaults the durations agree exactly for five dimmer values. For dimmer operands
above MAX_RAW the bound c <= w is the model's choice (log 15). -/
def Obligations.ZeroCrossingSymmetry : Prop :=
  (∀ c : Config, c.refusal = none →
    c.lin (warmU 0) = c.lin (coolU 0) ∧ c.coolRatio 0 ≤ c.warmRatio 0 ∧
    (0 < c.warmRatio 0 → c.coolFactor < 65536 → c.coolRatio 0 < c.warmRatio 0) ∧
    ∀ d, (c.plan 0 d).c ≤ (c.plan 0 d).w) ∧
  (∀ d, d ≤ 1023 →
    ((Config.default.plan 0 d).c = (Config.default.plan 0 d).w ↔ d = 0 ∨ d = 1 ∨ d = 2 ∨ d = 4 ∨ d = 5))

/-- 42_pulse_scheduler.md R129 (the spec's inference): the plan is monotone in the blend value and in the dimmer, and the two linear ratios
mirror each other. Outside the operand ranges R118 gives this is the model's choice (log 15). -/
def Obligations.PlanIsMonotone : Prop :=
  ∀ (c : Config) (sq sq' : Int) (d d' : Nat), sq ≤ sq' → d ≤ d' →
    (c.plan sq d).w ≤ (c.plan sq' d).w ∧ (c.plan sq' d).c ≤ (c.plan sq d).c ∧
    (c.plan sq d).w ≤ (c.plan sq d').w ∧ (c.plan sq d).c ≤ (c.plan sq d').c ∧
    c.lin (warmU sq) = c.lin (coolU (-sq))

/-- 41_phase_mode.md R94, 70_reset_and_hazards.md R156 (the spec's inferences from R93): XF.UPD advances the accumulator by N e modulo M;
such advances one after another carry no rounding error, and a whole period brings the phase back (R107); so at every Crossfade update of
a run without reset or transition the accumulator has advanced by N times the cycles since its last timestamp, through holds and updates
alike, and from RESET_STATE it is N T modulo M at time T. -/
def Obligations.PhaseAdvanceIsExact : Prop :=
  (∀ s s' : State, exec .xfUpd s = .next s' →
    s'.phase_acc = (s.phase_acc + s.cfg.n * s.elapsed.toNat) % s.cfg.modulus ∧
      s'.phase_acc = advanceAll s.cfg s.phase_acc [s.elapsed.toNat]) ∧
  (∀ (c : Config) (p : Nat) (es : List Nat), p < c.modulus →
    advanceAll c p es = (p + c.n * es.sum) % c.modulus ∧ (es.sum = c.periodUs → advanceAll c p es = p)) ∧
  (∀ (k : Nat) (s : State), s.cfg.Block → s.OnGrid → s.mode = .crossfade → s.phase_acc < s.cfg.modulus →
    s.NoResetFor (k + 1) → s.PollsTarget (k + 1) .crossfade →
    ∃ s1 s2, runs k s = .next s1 ∧ step s1 = .next s2 ∧ s2.mode = .crossfade ∧
      (s1.nextT = 0 → s.cfg.interval ≤ s1.elapsed.toNat →
        s2.phase_acc = (s.phase_acc + s.cfg.n * (s.elapsed.toNat + k)) % s.cfg.modulus ∧
        (s.elapsed.toNat + k = s.cfg.periodUs → s2.phase_acc = s.phase_acc)) ∧
      (s1.nextT ≠ 0 ∨ s1.elapsed.toNat < s.cfg.interval → s2.phase_acc = s1.phase_acc)) ∧
  (∀ (k : Nat) (c : Config) (s : State), c.Block → s.SameRegisters (State.resetFor c) →
    s.NoResetFor (k + 1) → s.PollsTarget (k + 1) .crossfade →
    ∃ s1 s2, runs k s = .next s1 ∧ step s1 = .next s2 ∧ s2.now_us = BitVec.ofNat 32 k ∧
      (s1.nextT = 0 → c.interval ≤ s1.elapsed.toNat → s2.phase_acc = (c.n * k) % c.modulus))

/-! ## The tick operations -/

/-- 41_phase_mode.md R88, R89: TR.XF and TR.AO write seven registers and nothing else, whatever their UPD bit; they complete in every
state. -/
def Obligations.TransitionsResult : Prop :=
  ∀ (u : Bool) (s : State),
    exec (.trXf u) s = .next { s with
      prev_sw := s.inSw, mode := .crossfade, phase_acc := 0, last_ts := s.now_us + 1, blank := true, plan_w := 0
      plan_c := 0 } ∧
    exec (.trAo u) s = .next { s with
      prev_sw := s.inSw, mode := .allOn, phase_acc := 0, last_ts := s.now_us + 1, blank := true, plan_w := 0, plan_c := 0 }

/-- 41_phase_mode.md R99: XF.HOLD completes in every block and writes the switch record, the blank flag and the plan of the held phase and
dimmer. -/
def Obligations.CrossfadeHoldResult : Prop :=
  ∀ s : State, s.cfg.Block →
    ∃ w, s.cfg.rom[(s.phase_acc / s.cfg.periodUs) % s.cfg.n]? = some w ∧
      exec .xfHold s = .next { s with
        prev_sw := s.inSw, blank := false
        plan_w := (s.cfg.plan w.toInt s.dim_reg).w, plan_c := (s.cfg.plan w.toInt s.dim_reg).c }

/-- 41_phase_mode.md R100: XF.UPD completes in every block; it advances the phase (R93), samples the dimmer (R95), records the timestamp
(R96), and emits the plan of the new values. -/
def Obligations.CrossfadeUpdateResult : Prop :=
  ∀ (s : State) (ph d : Nat), s.cfg.Block →
    ph = (s.phase_acc + s.cfg.n * (s.now_us + 1 - s.last_ts).toNat) % s.cfg.modulus → d = min s.inDim s.cfg.maxRawN →
    ∃ w, s.cfg.rom[(ph / s.cfg.periodUs) % s.cfg.n]? = some w ∧
      exec .xfUpd s = .next { s with
        prev_sw := s.inSw, phase_acc := ph, dim_reg := d, last_ts := s.now_us + 1, blank := false
        plan_w := (s.cfg.plan w.toInt d).w, plan_c := (s.cfg.plan w.toInt d).c }

/-- 41_phase_mode.md R101: AO.HOLD completes in every state and emits the plan of blend value 0 and the held dimmer; the ROM is not read. -/
def Obligations.AllOnHoldResult : Prop :=
  ∀ s : State, exec .aoHold s = .next { s with
    prev_sw := s.inSw, blank := false, plan_w := (s.cfg.plan 0 s.dim_reg).w, plan_c := (s.cfg.plan 0 s.dim_reg).c }

/-- 41_phase_mode.md R102: AO.UPD completes in every state, samples the dimmer, records the timestamp and leaves the phase (R97). -/
def Obligations.AllOnUpdateResult : Prop :=
  ∀ (s : State) (d : Nat), d = min s.inDim s.cfg.maxRawN →
    exec .aoUpd s = .next { s with
      prev_sw := s.inSw, dim_reg := d, last_ts := s.now_us + 1, blank := false
      plan_w := (s.cfg.plan 0 d).w, plan_c := (s.cfg.plan 0 d).c }

/-! ## The cycle operations -/

/-- 42_pulse_scheduler.md R122, R124: W.ON drives the warm channel alone, C.ON the cool channel alone; no register is written. -/
def Obligations.PulseOperationsDriveOneChannel : Prop :=
  ∀ s : State, exec .wOn s = .next { s with warm_o := true, cool_o := false } ∧
    exec .cOn s = .next { s with warm_o := false, cool_o := true }

/-- 42_pulse_scheduler.md R123, R125, R126: W.REM, C.REM and BLANK, the last whatever its HALF and ACT bits, turn both channels off; no
register is written. -/
def Obligations.RemainderAndBlankDriveNone : Prop :=
  ∀ (s : State) (half act : Bool),
    exec .wRem s = .next { s with warm_o := false, cool_o := false } ∧
    exec .cRem s = .next { s with warm_o := false, cool_o := false } ∧
    exec (.blank half act) s = .next { s with warm_o := false, cool_o := false }

/-! ## The step -/

/-- A poll step of a legal configuration runs the decoded tick operation on the state at its start, counts (41_phase_mode.md R104), and
runs the decoded cycle operation of the cycle entered (log 5). -/
def Obligations.PollStepRunsDecodedOperation : Prop :=
  ∀ (s : State) (i : Instr), s.cfg.refusal = none → s.inRst = false → s.nextT = 0 → decodeTdw s.tdw = i →
    i.wellFormed = true →
    step s = andThen (exec i s) fun s1 => exec (decodeCpc s1.count.cpc) s1.count

/-- A step that is no poll counts, or resets, and runs the decoded cycle operation of the cycle entered (41_phase_mode.md R103, 30_encoding.md
R74; log 5). -/
def Obligations.OtherStepsRunDecodedCycleOperation : Prop :=
  ∀ (s : State) (i : Instr), s.cfg.refusal = none → i.wellFormed = true →
    (s.inRst = true → decodeCpc s.resetRegisters.cpc = i → step s = exec i s.resetRegisters) ∧
    (s.inRst = false → s.nextT ≠ 0 → decodeCpc s.count.cpc = i → step s = exec i s.count)

/-- 41_phase_mode.md R104: the step of a legal configuration is the complete step function, written out once as the rule has it, with the
outputs of the cycle entered (42_pulse_scheduler.md R119). -/
def Obligations.StepIsCompleteStepFunction : Prop :=
  ∀ s : State, s.cfg.refusal = none → step s = referenceStep s

/-- 60_exceptions.md R136, 30_encoding.md R73: a block answers a next state to every input in every state. -/
def Obligations.BlockAlwaysSteps : Prop :=
  ∀ s : State, s.cfg.Block → ∃ s', step s = .next s'

/-- 60_exceptions.md R137, 00_scope.md R9: a step is refused exactly when the configuration is illegal, with a reason whose condition holds,
and a legal one is never refused. -/
def Obligations.IllegalConfigurationIsRefused : Prop :=
  ∀ s : State,
    (∀ r, step s = .refused r → s.cfg.MeetsCondition r) ∧
    (∀ r, s.cfg.MeetsCondition r → ∃ r', step s = .refused r' ∧ s.cfg.MeetsCondition r')

/-- 70_reset_and_hazards.md R151: a reset step gives RESET_STATE from any state and inputs, and holding rst keeps it. -/
def Obligations.ResetGivesResetState : Prop :=
  ∀ (k : Nat) (s : State), s.cfg.refusal = none → (∀ j, j < k + 1 → s.rstAt j = true) →
    runs (k + 1) s = .next
      { State.resetFor s.cfg with inputs := s.inputs.drop (k + 1), cycle := s.cycle + (k + 1) }

/-- 70_reset_and_hazards.md R152: the value of every register in RESET_STATE; the ROM is not reset. -/
def Obligations.ResetStateValues : Prop :=
  ∀ c : Config, c.refusal = none →
    (State.resetFor c).now_us = 0xFFFFFFFF#32 ∧ (State.resetFor c).t = 2 * c.h - 1 ∧
    (State.resetFor c).mode = .crossfade ∧ (((State.resetFor c).prev_sw.toNat : Nat) : Int) = c.xfadeLevel ∧
    (State.resetFor c).phase_acc = 0 ∧ (State.resetFor c).last_ts = 0#32 ∧ (State.resetFor c).dim_reg = 0 ∧
    (State.resetFor c).blank = true ∧ (State.resetFor c).plan_w = 0 ∧ (State.resetFor c).plan_c = 0 ∧
    (State.resetFor c).cfg.rom = c.rom

/-- 70_reset_and_hazards.md R154 (the spec's inference): the first step after reset is a poll at time 0 with elapsed time 0, and its tick has
now_us = t = 0 .. SLOT - 1. -/
def Obligations.FirstTickAfterReset : Prop :=
  ∀ (c : Config) (s : State), c.Block → (s.SameRegisters (State.resetFor c)) → s.inRst = false →
    s.nextNow = 0#32 ∧ s.nextT = 0 ∧ s.elapsed = 0#32 ∧
    ∀ k, k < c.slot → s.NoResetFor (k + 1) →
      ∃ s', runs (k + 1) s = .next s' ∧ s'.now_us.toNat = k ∧ s'.t = k

/-- 70_reset_and_hazards.md R155 (the spec's inference): the three ways the first poll after reset goes. -/
def Obligations.StartUpCases : Prop :=
  ∀ (c : Config) (s : State), c.Block → s.SameRegisters (State.resetFor c) → s.inRst = false →
    ∃ s', step s = .next s' ∧
      (s.tgt = .allOn → s'.mode = .allOn ∧ s'.blank = true ∧ s'.last_ts = 0#32 ∧ s'.dim_reg = 0) ∧
      (s.tgt = .crossfade → c.interval = 0 → s'.mode = .crossfade ∧ s'.blank = false ∧ s'.dim_reg = s.dimSample) ∧
      (s.tgt = .crossfade → 0 < c.interval →
        s'.mode = .crossfade ∧ s'.blank = false ∧ s'.dim_reg = 0 ∧ s'.plan_w = 0 ∧ s'.plan_c = 0)

/-- 41_phase_mode.md R103: a non-reset step that does not take t to 0 counts, shows the outputs of the cycle entered, and writes no other
register. -/
def Obligations.NonPollStepOnlyCounts : Prop :=
  ∀ s : State, s.cfg.refusal = none → s.t < s.cfg.slot → s.inRst = false → s.t + 1 ≠ s.cfg.slot →
    step s = .next { s with
      now_us := s.now_us + 1, t := s.t + 1, inputs := s.inputs.tail, cycle := s.cycle + 1
      warm_o := ({ s with t := s.t + 1 } : State).out.1, cool_o := ({ s with t := s.t + 1 } : State).out.2 }

/-- 30_encoding.md R59: with CHG = 1 a poll performs no update whatever the elapsed time: the dimmer register keeps its value and the phase is
0, the target mode is entered and the tick is blank. -/
def Obligations.TransitionHasPriorityOverUpdate : Prop :=
  ∀ s : State, s.cfg.refusal = none → s.inRst = false → s.nextT = 0 → s.tgt ≠ s.mode →
    step s = .next { s with
      now_us := s.now_us + 1, t := 0, mode := s.tgt, prev_sw := s.inSw, phase_acc := 0, last_ts := s.now_us + 1
      blank := true, plan_w := 0, plan_c := 0, warm_o := false, cool_o := false
      inputs := s.inputs.tail, cycle := s.cycle + 1 }

/-- 42_pulse_scheduler.md R119: after every step the output ports show the output function of the state reached. -/
def Obligations.OutputsShowTheStateReached : Prop :=
  ∀ s s' : State, step s = .next s' → (s'.warm_o, s'.cool_o) =
    (if s'.blank then (false, false)
     else if s'.t < s'.cfg.h then (decide (s'.t < s'.plan_w), false)
     else (false, decide (s'.t - s'.cfg.h < s'.plan_c)))

/-- 40_waveform_table.md R83, 10_state.md R33: no operation and no step writes the ROM or any parameter. -/
def Obligations.RomAndParametersAreNeverWritten : Prop :=
  (∀ (i : Instr) (s s' : State), exec i s = .next s' → s'.cfg = s.cfg) ∧
  (∀ s s' : State, step s = .next s' → s'.cfg = s.cfg)

/-- 10_state.md R18 (column "written by"), R22, R24, R25: outside reset, each register changes only where its rules write it. -/
def Obligations.RegistersChangeOnlyWhereWritten : Prop :=
  ∀ s s' : State, step s = .next s' → s.inRst = false →
    (s'.mode ≠ s.mode → s.nextT = 0 ∧ s.tgt ≠ s.mode ∧ s'.mode = s.tgt) ∧
    (s'.phase_acc ≠ s.phase_acc →
      s.nextT = 0 ∧ (s.tgt ≠ s.mode ∨ (s.mode = .crossfade ∧ s.cfg.interval ≤ s.elapsed.toNat))) ∧
    (s'.last_ts ≠ s.last_ts → s.nextT = 0 ∧ (s.tgt ≠ s.mode ∨ s.cfg.interval ≤ s.elapsed.toNat)) ∧
    (s'.dim_reg ≠ s.dim_reg → s.nextT = 0 ∧ s.tgt = s.mode ∧ s.cfg.interval ≤ s.elapsed.toNat) ∧
    (s'.prev_sw ≠ s.prev_sw ∨ s'.blank ≠ s.blank ∨ s'.plan_w ≠ s.plan_w ∨ s'.plan_c ≠ s.plan_c → s.nextT = 0) ∧
    s'.now_us = s.now_us + 1 ∧ s'.t = s.nextT

/-- 41_phase_mode.md R86, R103, 10_state.md R31: two states that differ in their inputs only agree after a non-reset step that is no poll. -/
def Obligations.InputsBetweenPollsHaveNoEffect : Prop :=
  ∀ a b : State, a.cfg.refusal = none → a.SameRegisters b → a.inRst = false → b.inRst = false → a.nextT ≠ 0 →
    ∃ a' b', step a = .next a' ∧ step b = .next b' ∧ a'.SameRegisters b'

/-- 41_phase_mode.md R95: the dimmer input is read at update polls and at no other step. -/
def Obligations.DimmerIsReadOnlyByUpdates : Prop :=
  ∀ a b : State, a.cfg.Block → a.SameRegisters b → a.inRst = b.inRst → a.inSw = b.inSw →
    (a.inRst = true ∨ a.nextT ≠ 0 ∨ a.tgt ≠ a.mode ∨ a.elapsed.toNat < a.cfg.interval) →
    ∃ a' b', step a = .next a' ∧ step b = .next b' ∧ a'.SameRegisters b'

/-! ## Invariants that every step keeps -/

/-- 10_state.md R32: the invariants hold in the reset state of every legal configuration. -/
def Obligations.InvariantHoldsAtReset : Prop :=
  ∀ c : Config, c.refusal = none → (State.resetFor c).Inv

/-- 10_state.md R32 (a) to (f) (the spec's inference): every step keeps the invariants, from every state that meets them. -/
def Obligations.InvariantKeptByEveryStep : Prop :=
  ∀ s s' : State, s.Inv → step s = .next s' → s'.Inv

/-- 10_state.md R34 (the spec's inference), R18: in a state that meets the invariants every register fits its width, and so after every
step. -/
def Obligations.RegistersFitTheirWidths : Prop :=
  ∀ s s' : State, s.Inv → step s = .next s' → s.FitsWidths ∧ s'.FitsWidths

/-- 41_phase_mode.md R106, 70_reset_and_hazards.md R167 (the spec's inference): the elapsed time stays on the tick grid and below 2^32, from
every state on the grid, and the reset state is on it. -/
def Obligations.ElapsedTimeStaysOnTickGrid : Prop :=
  (∀ c : Config, c.refusal = none → (State.resetFor c).OnGrid) ∧
  (∀ s s' : State, s.OnGrid → step s = .next s' → s'.OnGrid) ∧
  (∀ s : State, s.cfg.refusal = none → s.OnGrid → s.nextT = 0 →
    s.cfg.slot ∣ s.elapsed.toNat ∧ s.elapsed.toNat ≤ s.cfg.interval + s.cfg.slot ∧
      s.cfg.interval + s.cfg.slot ≤ 2 ^ 32 - 1)

/-- 42_pulse_scheduler.md R121 (the spec's inference): after every step the outputs do not overlap; in a state that meets the invariants a
rising edge of one channel comes after a cycle with both off, and the last cycle of each block is off. -/
def Obligations.OutputsNeverOverlapAndKeepDeadTime : Prop :=
  (∀ s s' : State, step s = .next s' → s'.NonOverlap) ∧
  (∀ s s' : State, s.Inv → step s = .next s' →
    (s.warm_o = false → s'.warm_o = true → s.cool_o = false) ∧
    (s.cool_o = false → s'.cool_o = true → s.warm_o = false)) ∧
  (∀ s : State, 0 < s.cfg.h → s.Inv → s.t = s.cfg.h - 1 ∨ s.t = 2 * s.cfg.h - 1 →
    s.warm_o = false ∧ s.cool_o = false)

/-! ## Runs -/

/-- 41_phase_mode.md R105 (its second sentence is the spec's inference): without reset, k steps advance the timebase and the position by k. -/
def Obligations.RunsCountCycles : Prop :=
  ∀ (k : Nat) (s : State), s.cfg.Block → s.t < s.cfg.slot → s.NoResetFor k →
    ∃ s', runs k s = .next s' ∧ s'.now_us = s.now_us + BitVec.ofNat 32 k ∧ s'.t = (s.t + k) % s.cfg.slot

/-- 42_pulse_scheduler.md R131, 70_reset_and_hazards.md R166 (the spec's inferences): until the next poll no input changes anything but the
two counters, so a pulse in progress runs to completion. -/
def Obligations.NoCancellationWithinTick : Prop :=
  ∀ (k : Nat) (s : State), s.cfg.refusal = none → s.t + k < s.cfg.slot → s.NoResetFor k → s.OutputsShown →
    runs k s = .next { s with
      now_us := s.now_us + BitVec.ofNat 32 k, t := s.t + k, inputs := s.inputs.drop k, cycle := s.cycle + k
      warm_o := ({ s with t := s.t + k } : State).out.1, cool_o := ({ s with t := s.t + k } : State).out.2 }

/-- 42_pulse_scheduler.md R120, R130 (the spec's inferences): over a tick the warm output is on for exactly the first plan_w cycles and the cool
output for exactly the first plan_c cycles of the second block; a blank tick is dark. -/
def Obligations.TickWaveformIsThePlan : Prop :=
  ∀ s : State, s.cfg.refusal = none → s.t = 0 → s.OutputsShown →
    s.plan_w ≤ s.cfg.h - 1 → s.plan_c ≤ s.cfg.h - 1 → s.NoResetFor (s.cfg.slot - 1) →
    ∃ tick : List State, tick.length = s.cfg.slot ∧ (∀ k, k < s.cfg.slot → ∃ sk, tick[k]? = some sk ∧ runs k s = .next sk) ∧
      (s.blank = true → ∀ sk ∈ tick, sk.warm_o = false ∧ sk.cool_o = false) ∧
      (s.blank = false →
        (∀ k, k < s.cfg.slot → ∀ sk, tick[k]? = some sk →
          (sk.warm_o = true ↔ k < s.plan_w) ∧ (sk.cool_o = true ↔ s.cfg.h ≤ k ∧ k < s.cfg.h + s.plan_c)) ∧
        tick.countP (fun sk => sk.warm_o) = s.plan_w ∧ tick.countP (fun sk => sk.cool_o) = s.plan_c)

/-- 41_phase_mode.md R90, R108 (the last clause is the spec's inference): a transition poll samples no dimmer, advances no phase, blanks the
whole tick, and the next poll sees an elapsed time of SLOT. -/
def Obligations.TransitionBlanksOneTick : Prop :=
  ∀ s : State, s.cfg.refusal = none → s.inRst = false → s.nextT = 0 → s.tgt ≠ s.mode → s.NoResetFor s.cfg.slot →
    ∃ s1, step s = .next s1 ∧ s1.mode = s.tgt ∧ s1.dim_reg = s.dim_reg ∧ s1.phase_acc = 0 ∧ s1.last_ts = s1.now_us ∧
      (∀ k, k < s.cfg.slot → ∃ sk, runs k s1 = .next sk ∧ sk.t = k ∧ sk.warm_o = false ∧ sk.cool_o = false) ∧
      (∃ s2, runs (s.cfg.slot - 1) s1 = .next s2 ∧ s2.nextT = 0 ∧ s2.elapsed.toNat = s.cfg.slot)

/-- 41_phase_mode.md R106 (the spec's inference): without transitions and resets, from a poll that recorded the timestamp, the j-th poll sees an
elapsed time of j ticks, and updates exactly when j is U = max(1, ceil(I / SLOT)). Its step records the timestamp then, which is the
state the count started from, so the cadence repeats; a poll before it leaves the timestamp. The switch may bounce between polls (R86). -/
def Obligations.UpdateCadence : Prop :=
  ∀ (j : Nat) (s : State), s.cfg.Block → s.t = 0 → s.last_ts = s.now_us → 1 ≤ j → j ≤ updateTicks s.cfg →
    s.NoResetFor (j * s.cfg.slot) → s.PollsTarget (j * s.cfg.slot) s.mode →
    ∃ s' s'', runs (j * s.cfg.slot - 1) s = .next s' ∧ s'.inRst = false ∧ s'.nextT = 0 ∧ s'.tgt = s'.mode ∧
      s'.elapsed.toNat = j * s.cfg.slot ∧ (s.cfg.interval ≤ s'.elapsed.toNat ↔ j = updateTicks s.cfg) ∧
      step s' = .next s'' ∧ s''.cfg = s.cfg ∧ s''.t = 0 ∧ s''.mode = s.mode ∧
      (j = updateTicks s.cfg → s''.last_ts = s''.now_us) ∧ (j < updateTicks s.cfg → s''.last_ts = s.last_ts)

/-! ## The model's own choices -/

/-- The model's choice, log 7: placing an operation's word makes the next step form it. -/
def Obligations.PlacedWordIsFormed : Prop :=
  ∀ (s : State) (i : Instr), s.cfg.refusal = none → 0 < s.cfg.interval → 2 ≤ s.cfg.h →
    (s.arrange i).inRst = false ∧
    (i.format = .tdw → (s.arrange i).nextT = 0 ∧ (s.arrange i).tdw = encode i) ∧
    (i.format = .cpc → (s.arrange i).nextT ≠ 0 ∧ (s.arrange i).count.cpc = encode i)

/-- The model's choice of free values, log 11 (70_reset_and_hazards.md R157): at power-up every register holds some value of its width, and one
reset step from there gives RESET_STATE. -/
def Obligations.PowerUpFitsAndResets : Prop :=
  ∀ (c : Config) (w : Nat) (ws : List Nat), c.refusal = none → c.rstOf w = true →
    (State.powerUp c).FitsWidths ∧
    step { State.powerUp c with inputs := w :: ws } = .next { State.resetFor c with inputs := ws, cycle := 1 }
end

