-- ==== Sys2Proof/Laws/Config.lean ====
section
/-! SUPPORT. What a legal configuration gives (00_scope.md R6), and the bits of a word. -/

namespace Sys2Proof

/-- The legal values of R6, read off a configuration no reason refuses. -/
structure Config.LegalValues (c : Config) : Prop where
  tableN_pos : 1 ≤ c.tableN
  cyclePeriod_pos : 1 ≤ c.cyclePeriodMs
  halfPeriod_pos : 1 ≤ c.halfPeriodUs
  interval_nonneg : 0 ≤ c.updateIntervalUs
  interval_bound : c.updateIntervalUs + 2 * c.halfPeriodUs ≤ 4294967295
  dimW_pos : 1 ≤ c.dimW
  dimW_le : c.dimW ≤ 32
  maxRaw_pos : 1 ≤ c.maxRaw
  maxRaw_le : c.maxRaw ≤ 2 ^ c.dimW.toNat - 1
  minRatio_mem : 0 ≤ c.minRatioQ16 ∧ c.minRatioQ16 ≤ 65536
  maxRatio_mem : 0 ≤ c.maxRatioQ16 ∧ c.maxRatioQ16 ≤ 65536
  coolFactor_mem : 0 ≤ c.coolFactorQ16 ∧ c.coolFactorQ16 ≤ 65536
  xfadeLevel_mem : c.xfadeLevel = 0 ∨ c.xfadeLevel = 1

/-- A configuration is refused for no reason exactly when its values are legal. -/
theorem Config.refusal_eq_none_iff (c : Config) : c.refusal = none ↔ c.LegalValues := by
  have key : c.refusal = none ↔ (c.badTableN = false ∧ c.badCyclePeriod = false ∧ c.badHalfPeriod = false ∧
      c.badUpdateInterval = false ∧ c.badDimmer = false ∧ c.badRatio = false ∧ c.badXfadeLevel = false) := by
    unfold Config.refusal
    cases c.badTableN <;> cases c.badCyclePeriod <;> cases c.badHalfPeriod <;> cases c.badUpdateInterval <;>
      cases c.badDimmer <;> cases c.badRatio <;> cases c.badXfadeLevel <;> simp
  rw [key]
  simp only [Config.badTableN, Config.badCyclePeriod, Config.badHalfPeriod, Config.badUpdateInterval, Config.badDimmer,
    Config.badRatio, badRatioValue, Config.badXfadeLevel, Bool.or_eq_false_iff, Bool.and_eq_false_iff,
    decide_eq_false_iff_not, not_lt, ne_eq, not_not]
  constructor
  · rintro ⟨h1, h2, h3, ⟨h4, h5⟩, ⟨⟨⟨h6, h7⟩, h8⟩, h9⟩, ⟨⟨h10, h11⟩, h12⟩, h13⟩
    exact ⟨h1, h2, h3, h4, h5, h6, h7, h8, h9, h10, h11, h12, h13⟩
  · intro h
    exact ⟨h.tableN_pos, h.cyclePeriod_pos, h.halfPeriod_pos, ⟨h.interval_nonneg, h.interval_bound⟩,
      ⟨⟨⟨h.dimW_pos, h.dimW_le⟩, h.maxRaw_pos⟩, h.maxRaw_le⟩, ⟨⟨h.minRatio_mem, h.maxRatio_mem⟩, h.coolFactor_mem⟩,
      h.xfadeLevel_mem⟩

section
variable {c : Config} (h : c.refusal = none)
include h

theorem Config.legal : c.LegalValues := c.refusal_eq_none_iff.mp h

theorem Config.n_pos : 0 < c.n := by have := (Config.legal h).tableN_pos; unfold Config.n; omega

theorem Config.h_pos : 0 < c.h := by have := (Config.legal h).halfPeriod_pos; unfold Config.h; omega

theorem Config.periodUs_pos : 0 < c.periodUs := by
  have := (Config.legal h).cyclePeriod_pos; unfold Config.periodUs; omega

theorem Config.modulus_pos : 0 < c.modulus := Nat.mul_pos (Config.n_pos h) (Config.periodUs_pos h)

theorem Config.slot_ge_two : 2 ≤ c.slot := by have := Config.h_pos h; unfold Config.slot; omega

theorem Config.maxRawN_pos : 0 < c.maxRawN := by have := (Config.legal h).maxRaw_pos; unfold Config.maxRawN; omega

theorem Config.maxRawN_lt : c.maxRawN < 2 ^ c.dimWidth := by
  have := (Config.legal h).maxRaw_le
  have h1 := (Config.legal h).maxRaw_pos
  have h2 : ((2 ^ c.dimW.toNat : Nat) : Int) = 2 ^ c.dimW.toNat := by push_cast; rfl
  unfold Config.maxRawN Config.dimWidth
  omega

theorem Config.interval_add_slot_le : c.interval + c.slot ≤ 4294967295 := by
  have := (Config.legal h).interval_bound
  have h1 := (Config.legal h).interval_nonneg
  have h2 := (Config.legal h).halfPeriod_pos
  unfold Config.interval Config.slot Config.h
  omega

theorem Config.coolFactor_le : c.coolFactor ≤ 65536 := by
  have := (Config.legal h).coolFactor_mem; unfold Config.coolFactor; omega

/-- The reset level of `prev_sw` is XFADE_LEVEL, so its target is the reset mode (70_reset_and_hazards.md R152). -/
theorem Config.target_resetPrevSw : c.target c.resetPrevSw = .crossfade := by
  unfold Config.target Config.resetPrevSw
  rcases (Config.legal h).xfadeLevel_mem with h0 | h0 <;> simp [h0]

end

/-- A populated ROM answers every index below N with a word in range (20_memory.md R40, R41). -/
theorem Config.rom_get {c : Config} (hr : c.romWellFormed = true) {i : Nat} (hi : i < c.n) :
    ∃ w, c.rom[i]? = some w ∧ romWordInRange w = true := by
  unfold Config.romWellFormed at hr
  rw [Bool.and_eq_true, decide_eq_true_eq, List.all_eq_true] at hr
  have hl : i < c.rom.length := by rw [hr.1]; exact hi
  exact ⟨c.rom[i], List.getElem?_eq_getElem hl, hr.2 _ (List.getElem_mem hl)⟩

theorem word3_bit2 (a b d : Bool) : (word3 a b d).getLsbD 2 = a := by cases a <;> cases b <;> cases d <;> rfl

theorem word3_bit1 (a b d : Bool) : (word3 a b d).getLsbD 1 = b := by cases a <;> cases b <;> cases d <;> rfl

theorem word3_bit0 (a b d : Bool) : (word3 a b d).getLsbD 0 = d := by cases a <;> cases b <;> cases d <;> rfl

@[simp] theorem word3_get2 (a b d : Bool) : (word3 a b d)[2] = a := word3_bit2 a b d

@[simp] theorem word3_get1 (a b d : Bool) : (word3 a b d)[1] = b := word3_bit1 a b d

@[simp] theorem word3_get0 (a b d : Bool) : (word3 a b d)[0] = d := word3_bit0 a b d

end Sys2Proof
end

