-- ==== Sys2Proof/Laws/PerInstr.lean ====
section
/-! SUPPORT. Families of statements about every operation as syntax, one lemma per constructor. -/

namespace Sys2Proof.Laws

/-- The word of an operation decodes, in its own format, to the operation (30_encoding.md R58, R62). -/
def WordRoundTrip.Statement (i : Instr) : Prop := decodeWord i.format (encode i) = i

theorem WordRoundTrip.trXf (upd : Bool) : WordRoundTrip.Statement (.trXf upd) := by cases upd <;> rfl

theorem WordRoundTrip.trAo (upd : Bool) : WordRoundTrip.Statement (.trAo upd) := by cases upd <;> rfl

theorem WordRoundTrip.xfHold : WordRoundTrip.Statement .xfHold := rfl

theorem WordRoundTrip.xfUpd : WordRoundTrip.Statement .xfUpd := rfl

theorem WordRoundTrip.aoHold : WordRoundTrip.Statement .aoHold := rfl

theorem WordRoundTrip.aoUpd : WordRoundTrip.Statement .aoUpd := rfl

theorem WordRoundTrip.blank (half act : Bool) : WordRoundTrip.Statement (.blank half act) := by
  cases half <;> cases act <;> rfl

theorem WordRoundTrip.wOn : WordRoundTrip.Statement .wOn := rfl

theorem WordRoundTrip.wRem : WordRoundTrip.Statement .wRem := rfl

theorem WordRoundTrip.cOn : WordRoundTrip.Statement .cOn := rfl

theorem WordRoundTrip.cRem : WordRoundTrip.Statement .cRem := rfl

end Sys2Proof.Laws
end

