-- ==== Sys2Proof/Laws/Plan.lean ====
section
/-! SUPPORT. What the square root and the durations of the duty-cycle calculator are (00_scope.md R10, 42_pulse_scheduler.md R116). -/

namespace Sys2Proof

/-- The bits still to come cannot pass the root, and fill the gap to it. -/
theorem isqrtBits_spec (k : Nat) : ∀ (n r : Nat), r * r ≤ n → n < (r + 2 ^ k) * (r + 2 ^ k) →
    isqrtBits k n r * isqrtBits k n r ≤ n ∧ n < (isqrtBits k n r + 1) * (isqrtBits k n r + 1) := by
  induction k with
  | zero => intro n r h1 h2; simpa [isqrtBits] using And.intro h1 h2
  | succ k ih =>
    intro n r h1 h2
    unfold isqrtBits
    split
    next h => exact ih n _ h (by rw [pow_succ] at h2; convert h2 using 2 <;> ring)
    next h => exact ih n r h1 (by omega)

/-- `isqrt(n)` is the largest r with r * r <= n (00_scope.md R10). -/
theorem isqrt_spec (n : Nat) : isqrt n * isqrt n ≤ n ∧ n < (isqrt n + 1) * (isqrt n + 1) := by
  refine isqrtBits_spec _ n 0 (Nat.zero_le n) ?_
  rw [Nat.zero_add, ← pow_add]
  rcases Nat.eq_zero_or_pos n with h | h
  · subst h; exact Nat.two_pow_pos _
  · have h1 : n < 2 ^ (Nat.log2 n + 1) := Nat.lt_log2_self
    exact lt_of_lt_of_le h1 (Nat.pow_le_pow_right (by omega) (by omega))

/-- A number whose square is at most n is at most the root. -/
theorem le_isqrt_iff (r n : Nat) : r ≤ isqrt n ↔ r * r ≤ n := by
  have h := isqrt_spec n
  constructor
  · intro hr; exact le_trans (Nat.mul_le_mul hr hr) h.1
  · intro hr
    by_contra hlt
    have : (isqrt n + 1) * (isqrt n + 1) ≤ r * r := Nat.mul_le_mul (by omega) (by omega)
    omega

/-- The square root does not decrease. -/
theorem isqrt_mono {a b : Nat} (h : a ≤ b) : isqrt a ≤ isqrt b :=
  (le_isqrt_iff _ _).mpr (le_trans (isqrt_spec a).1 h)

/-- A duration never exceeds H - 1 (R116). -/
theorem Config.dur_le (c : Config) (r d : Nat) : c.dur r d ≤ c.h - 1 := Nat.min_le_right _ _

/-- Both durations of a plan never exceed H - 1. -/
theorem Config.plan_le (c : Config) (sq : Int) (d : Nat) :
    (c.plan sq d).w ≤ c.h - 1 ∧ (c.plan sq d).c ≤ c.h - 1 := ⟨c.dur_le _ _, c.dur_le _ _⟩

end Sys2Proof
end

