-- ==== Sys2Proof/Laws/RomLaw.lean ====
section
/-! SUPPORT. The default ROM image obeys the law of 40_waveform_table.md R76: a rotation by one table step, carried in integers of
scale 10^15 with a bound on its error, stays close enough to each literal to fix the rounding. -/

namespace Sys2Proof

open Real

/-- One table step of the default table: 2 pi / 3600. -/
noncomputable def tableStep : ℝ := π / 1800

/-- The scale of the integer rotation. -/
def rotScale : Int := 1000000000000000

/-- The sine of one table step at that scale, to the nearest integer. -/
def rotSin : Int := 1745328365898

/-- The cosine of one table step at that scale, to the nearest integer. -/
def rotCos : Int := 999998476913288

/-- Walks the entries with the rotated pair and its error bound: each entry is the rounding of the scaled sine. -/
def waveChecks : List Nat → Int → Int → Nat → Bool
  | [], _, _, _ => true
  | v :: vs, a, b, e =>
    decide (|32768 * a - 2 * v * rotScale| + 32768 * e < rotScale) &&
      waveChecks vs ((a * rotCos + b * rotSin) / rotScale) ((b * rotCos - a * rotSin) / rotScale) (e + e / 400 + 1000)

theorem tableStep_bounds : 0.00174532925199432957 < tableStep ∧ tableStep < 0.00174532925199432958 := by
  have h1 := Real.pi_gt_d20
  have h2 := Real.pi_lt_d20
  unfold tableStep
  constructor <;> linarith

theorem rotSin_close : |(rotSin : ℝ) - 1000000000000000 * sin tableStep| ≤ 1 := by
  obtain ⟨h1, h2⟩ := tableStep_bounds
  have h0 : (0 : ℝ) < tableStep := by linarith
  have hb := Real.sin_bound (x := tableStep) (by rw [abs_of_pos h0]; linarith)
  rw [abs_of_pos h0, abs_le] at hb
  have l3 := pow_le_pow_left₀ (by norm_num) h1.le 3
  have u3 := pow_le_pow_left₀ h0.le h2.le 3
  have u5 := pow_le_pow_left₀ h0.le h2.le 5
  norm_num at l3 u3 u5
  unfold rotSin
  rw [abs_le]
  push_cast
  constructor <;> linarith [hb.1, hb.2]

theorem rotCos_close : |(rotCos : ℝ) - 1000000000000000 * cos tableStep| ≤ 900 := by
  obtain ⟨h1, h2⟩ := tableStep_bounds
  have h0 : (0 : ℝ) < tableStep := by linarith
  have hb := Real.cos_bound (x := tableStep) (by rw [abs_of_pos h0]; linarith)
  rw [abs_of_pos h0, abs_le] at hb
  have l2 := pow_le_pow_left₀ (by norm_num) h1.le 2
  have u2 := pow_le_pow_left₀ h0.le h2.le 2
  have u4 := pow_le_pow_left₀ h0.le h2.le 4
  norm_num at l2 u2 u4
  unfold rotCos
  rw [abs_le]
  push_cast
  constructor <;> linarith [hb.1, hb.2]

/-- Integer division by the scale, as a real, falls short by less than one. -/
theorem floor_div_close (x : Int) : |((x / rotScale : Int) : ℝ) - x / 1000000000000000| ≤ 1 := by
  have h1 := Int.ediv_mul_le x (b := rotScale) (by decide)
  have h2 := Int.lt_ediv_add_one_mul_self x (b := rotScale) (by decide)
  have h1' : ((x / rotScale : Int) : ℝ) * 1000000000000000 ≤ x := by exact_mod_cast h1
  have h2' : (x : ℝ) < (((x / rotScale : Int) : ℝ) + 1) * 1000000000000000 := by exact_mod_cast h2
  rw [abs_le]
  constructor
  · have : (x : ℝ) / 1000000000000000 < ((x / rotScale : Int) : ℝ) + 1 := by rw [div_lt_iff₀ (by norm_num)]; exact h2'
    linarith
  · have : ((x / rotScale : Int) : ℝ) ≤ (x : ℝ) / 1000000000000000 := by rw [le_div_iff₀ (by norm_num)]; exact h1'
    linarith

/-- One rotation step: the error of a scaled sum of products grows by at most a 400th and a constant. -/
theorem rotation_error {s c e d : ℝ} {x y : ℝ} (hs : |s| ≤ 1) (hc : |c| ≤ 1)
    (hx : |x - 1000000000000000 * s| ≤ e) (hy : |y - 1000000000000000 * c| ≤ e) (he : 0 ≤ e)
    (hd : d = x * rotCos / 1000000000000000 + y * rotSin / 1000000000000000) :
    |d - 1000000000000000 * (s * cos tableStep + c * sin tableStep)| ≤ e + e / 450 + 902 := by
  have hsn := rotSin_close
  have hcs := rotCos_close
  have hc0 : (rotCos : ℝ) = 999998476913288 := by norm_num [rotCos]
  have hs0 : (rotSin : ℝ) = 1745328365898 := by norm_num [rotSin]
  have key : d - 1000000000000000 * (s * cos tableStep + c * sin tableStep) =
      (x - 1000000000000000 * s) * (rotCos / 1000000000000000) + (y - 1000000000000000 * c) * (rotSin / 1000000000000000)
      + s * (rotCos - 1000000000000000 * cos tableStep) + c * (rotSin - 1000000000000000 * sin tableStep) := by
    rw [hd]; ring
  rw [key]
  have t1 : |(x - 1000000000000000 * s) * ((rotCos : ℝ) / 1000000000000000)| ≤ e := by
    rw [abs_mul, hc0, abs_of_pos (by norm_num : (0 : ℝ) < 999998476913288 / 1000000000000000)]
    calc _ ≤ |x - 1000000000000000 * s| * 1 := by gcongr; norm_num
      _ ≤ e := by linarith
  have t2 : |(y - 1000000000000000 * c) * ((rotSin : ℝ) / 1000000000000000)| ≤ e / 450 := by
    rw [abs_mul, hs0, abs_of_pos (by norm_num : (0 : ℝ) < 1745328365898 / 1000000000000000)]
    calc _ ≤ e * (1 / 450) := mul_le_mul hy (by norm_num) (by norm_num) he
      _ = e / 450 := by ring
  have t3 : |s * ((rotCos : ℝ) - 1000000000000000 * cos tableStep)| ≤ 900 := by
    rw [abs_mul]
    calc _ ≤ 1 * |(rotCos : ℝ) - 1000000000000000 * cos tableStep| := by gcongr
      _ ≤ 900 := by linarith
  have t4 : |c * ((rotSin : ℝ) - 1000000000000000 * sin tableStep)| ≤ 1 := by
    rw [abs_mul]
    calc _ ≤ 1 * |(rotSin : ℝ) - 1000000000000000 * sin tableStep| := by gcongr
      _ ≤ 1 := by linarith
  rw [abs_le] at *
  constructor <;> linarith [t1.1, t1.2, t2.1, t2.2, t3.1, t3.2, t4.1, t4.2]

/-- The error bound in natural numbers covers one rotation step and its two floors. -/
theorem error_step (e : Nat) : (e : ℝ) + e / 450 + 904 ≤ ((e + e / 400 + 1000 : Nat) : ℝ) := by
  have h : (e : ℝ) < ((e / 400 : Nat) : ℝ) * 400 + 400 := by
    have : e < e / 400 * 400 + 400 := by omega
    exact_mod_cast this
  have h0 : (0 : ℝ) ≤ e := Nat.cast_nonneg e
  push_cast
  linarith

/-- A walk that checks puts every entry within one half of the scaled sine. -/
theorem waveChecks_close : ∀ (l : List Nat) (a b : Int) (e k : Nat), waveChecks l a b e = true →
    |(a : ℝ) - 1000000000000000 * sin (k * tableStep)| ≤ e → |(b : ℝ) - 1000000000000000 * cos (k * tableStep)| ≤ e →
    ∀ j v : Nat, l[j]? = some v → |16384 * sin (((k + j : Nat) : ℝ) * tableStep) - v| < 1 / 2 := by
  intro l
  induction l with
  | nil => intro a b e k _ _ _ j v hj; simp at hj
  | cons v0 vs ih =>
    intro a b e k hw ha hb j v hj
    unfold waveChecks at hw
    rw [Bool.and_eq_true, decide_eq_true_eq] at hw
    have hsum : ((k + 1 : Nat) : ℝ) * tableStep = k * tableStep + tableStep := by push_cast; ring
    cases j with
    | zero =>
      have hv : v0 = v := by simpa using hj
      subst hv
      have h1 : (|32768 * (a : ℝ) - 2 * v0 * 1000000000000000| + 32768 * e : ℝ) < 1000000000000000 := by
        have := hw.1
        unfold rotScale at this
        exact_mod_cast this
      rw [Nat.add_zero]
      have h2 := abs_le.mp ha
      have h3 : |32768 * (a : ℝ) - 2 * v0 * 1000000000000000| < 1000000000000000 - 32768 * e := by linarith
      rw [abs_lt] at h3 ⊢
      constructor <;> linarith [h2.1, h2.2, h3.1, h3.2]
    | succ j =>
      have e0 : (0 : ℝ) ≤ e := Nat.cast_nonneg e
      have hes := error_step e
      have fa := floor_div_close (a * rotCos + b * rotSin)
      have fb := floor_div_close (b * rotCos - a * rotSin)
      have ra := rotation_error (d := ((a * rotCos + b * rotSin : Int) : ℝ) / 1000000000000000)
        (abs_sin_le_one _) (abs_cos_le_one _) ha hb e0 (by push_cast; ring)
      have rb := rotation_error (s := cos (k * tableStep)) (c := - sin (k * tableStep)) (x := b) (y := - a) (e := e)
        (d := ((b * rotCos - a * rotSin : Int) : ℝ) / 1000000000000000)
        (abs_cos_le_one _) (by rw [abs_neg]; exact abs_sin_le_one _) hb
        (by rw [mul_neg, neg_sub_neg, abs_sub_comm]; exact ha) e0 (by push_cast; ring)
      have hn := ih _ _ _ (k + 1) hw.2 (by
          rw [hsum, sin_add]
          rw [abs_le] at *
          constructor <;> linarith [fa.1, fa.2, ra.1, ra.2]) (by
          rw [hsum, cos_add]
          rw [abs_le] at *
          constructor <;> linarith [fb.1, fb.2, rb.1, rb.2]) j v (by simpa using hj)
      rw [show k + (j + 1) = k + 1 + j by omega]
      exact hn

theorem quarterWave_checks : waveChecks quarterWave 0 rotScale 0 = true := by decide +kernel

theorem quarterWave_length : quarterWave.length = 901 := by decide +kernel

/-- Every literal of the quarter wave is within one half of its scaled sine. -/
theorem quarterWave_close (j v : Nat) (h : quarterWave[j]? = some v) : |16384 * sin (j * tableStep) - v| < 1 / 2 := by
  have := waveChecks_close quarterWave 0 rotScale 0 0 quarterWave_checks (by simp) (by simp [rotScale]) j v h
  simpa using this

theorem halfWave_length : halfWave.length = 1800 := by simp [halfWave, quarterWave_length]

/-- Every entry of the half wave is within one half of its scaled sine. -/
theorem halfWave_close (i v : Nat) (h : halfWave[i]? = some v) : |16384 * sin (i * tableStep) - v| < 1 / 2 := by
  unfold halfWave at h
  by_cases hi : i < 901
  · rw [List.getElem?_append_left (by rw [quarterWave_length]; exact hi)] at h
    exact quarterWave_close i v h
  · have hlt : i - 901 < 899 := by
      have := (List.getElem?_eq_some_iff.mp h).1
      simp [quarterWave_length] at this
      omega
    rw [List.getElem?_append_right (by rw [quarterWave_length]; omega), quarterWave_length,
      List.getElem?_reverse (by simp [quarterWave_length]; omega), List.getElem?_dropLast,
      if_pos (by simp [quarterWave_length]; omega), List.getElem?_drop] at h
    simp only [List.length_dropLast, List.length_drop, quarterWave_length] at h
    have hq := quarterWave_close _ v h
    have hcast : ((1 + (901 - 1 - 1 - 1 - (i - 901)) : Nat) : ℝ) * tableStep = π - i * tableStep := by
      rw [show 1 + (901 - 1 - 1 - 1 - (i - 901)) = 1800 - i by omega, Nat.cast_sub (by omega)]
      unfold tableStep
      push_cast
      ring
    rw [hcast, sin_pi_sub] at hq
    exact hq

/-- A value within one half rounds to it. -/
theorem round_of_close {x : ℝ} {z : Int} (h : |x - z| < 1 / 2) : round x = z := by
  rw [round_eq, Int.floor_eq_iff]
  rw [abs_lt] at h
  constructor <;> linarith [h.1, h.2]

/-- The 16-bit word of a half-wave entry and of its negation read back (20_memory.md R41). -/
theorem halfWave_small (v : Nat) (h : v ∈ halfWave) : v ≤ 16384 := by
  obtain ⟨i, hi⟩ := List.getElem?_of_mem h
  have hc := halfWave_close i v hi
  have hs := sin_le_one (i * tableStep)
  rw [abs_lt] at hc
  have : (v : ℝ) < 16385 := by linarith [hc.1]
  have : v < 16385 := by exact_mod_cast this
  omega

theorem toInt_ofNat_small {v : Nat} (h : v ≤ 16384) : (BitVec.ofNat 16 v).toInt = v := by
  rw [BitVec.toInt_ofNat', Int.bmod_def]; omega

theorem toInt_neg_ofNat_small {v : Nat} (h : v ≤ 16384) : (- BitVec.ofNat 16 v).toInt = - v := by
  rw [BitVec.toInt_neg, toInt_ofNat_small h, Int.bmod_def]; omega

theorem half_entry {i : Nat} (hi : i < 1800) : ∃ v, halfWave[i]? = some v :=
  ⟨_, List.getElem?_eq_getElem (by rw [halfWave_length]; exact hi)⟩

/-- The default ROM image obeys R76, so the default configuration is the spec's block (R85). -/
theorem default_romLaw : Config.default.RomLaw := by
  intro i hi
  have hi' : i < 3600 := by
    have : (i : Int) < 3600 := hi
    omega
  have hrom : Config.default.rom = sineRom3600 := rfl
  have harg : 2 * π * (i : ℝ) / ((Config.default.tableN : Int) : ℝ) = i * tableStep := by
    rw [show Config.default.tableN = (3600 : Int) from rfl]
    unfold tableStep
    push_cast
    ring
  rw [hrom, harg]
  unfold sineRom3600
  by_cases h : i < 1800
  · obtain ⟨v, hv⟩ := half_entry h
    refine ⟨BitVec.ofNat 16 v, ?_, ?_⟩
    · rw [List.getElem?_append_left (by simp [halfWave_length, h]), List.getElem?_map, hv]; rfl
    · rw [toInt_ofNat_small (halfWave_small v (List.mem_of_getElem? hv))]
      exact (round_of_close (by exact_mod_cast halfWave_close i v hv)).symm
  · obtain ⟨v, hv⟩ := half_entry (show i - 1800 < 1800 by omega)
    refine ⟨- BitVec.ofNat 16 v, ?_, ?_⟩
    · rw [List.getElem?_append_right (by simp [halfWave_length]; omega), List.length_map, halfWave_length,
        List.getElem?_map, hv]; rfl
    · rw [toInt_neg_ofNat_small (halfWave_small v (List.mem_of_getElem? hv))]
      have hc := halfWave_close (i - 1800) v hv
      have hs : sin (((i - 1800 : Nat) : ℝ) * tableStep) = - sin (i * tableStep) := by
        have ha : ((i - 1800 : Nat) : ℝ) * tableStep = i * tableStep - π := by
          rw [Nat.cast_sub (by omega)]
          unfold tableStep
          push_cast
          ring
        rw [ha, sin_sub_pi]
      rw [hs] at hc
      refine (round_of_close ?_).symm
      rw [abs_lt] at hc ⊢
      push_cast
      constructor <;> linarith [hc.1, hc.2]

/-- The default ROM is populated with words in range (20_memory.md R40, R41). -/
theorem default_romWellFormed : Config.default.romWellFormed = true := by
  have hl : Config.default.rom.length = 3600 := by
    rw [show Config.default.rom = sineRom3600 from rfl]
    simp [sineRom3600, halfWave_length]
  unfold Config.romWellFormed
  rw [Bool.and_eq_true, decide_eq_true_eq, List.all_eq_true]
  refine ⟨hl, fun w hw => ?_⟩
  rw [show Config.default.rom = sineRom3600 from rfl] at hw
  unfold sineRom3600 at hw
  unfold romWordInRange
  rw [Bool.and_eq_true, decide_eq_true_eq, decide_eq_true_eq]
  rcases List.mem_append.mp hw with h | h
  · obtain ⟨v, hv, rfl⟩ := List.mem_map.mp h
    have := halfWave_small v hv
    rw [toInt_ofNat_small this]; omega
  · obtain ⟨v, hv, rfl⟩ := List.mem_map.mp h
    have := halfWave_small v hv
    rw [toInt_neg_ofNat_small this]; omega

end Sys2Proof
end

