-- ==== Sys2Proof/Laws/State.lean ====
section
/-! SUPPORT. One lemma per field per named update of the state, so that no later proof unfolds an update. -/

namespace Sys2Proof.Machine

variable (s : State)

@[simp] theorem State.recordSwitch_cfg : (s.recordSwitch).cfg = s.cfg := rfl
@[simp] theorem State.recordSwitch_now_us : (s.recordSwitch).now_us = s.now_us := rfl
@[simp] theorem State.recordSwitch_t : (s.recordSwitch).t = s.t := rfl
@[simp] theorem State.recordSwitch_mode : (s.recordSwitch).mode = s.mode := rfl
@[simp] theorem State.recordSwitch_prev_sw : (s.recordSwitch).prev_sw = s.inSw := rfl
@[simp] theorem State.recordSwitch_phase_acc : (s.recordSwitch).phase_acc = s.phase_acc := rfl
@[simp] theorem State.recordSwitch_last_ts : (s.recordSwitch).last_ts = s.last_ts := rfl
@[simp] theorem State.recordSwitch_dim_reg : (s.recordSwitch).dim_reg = s.dim_reg := rfl
@[simp] theorem State.recordSwitch_blank : (s.recordSwitch).blank = s.blank := rfl
@[simp] theorem State.recordSwitch_plan_w : (s.recordSwitch).plan_w = s.plan_w := rfl
@[simp] theorem State.recordSwitch_plan_c : (s.recordSwitch).plan_c = s.plan_c := rfl
@[simp] theorem State.recordSwitch_warm_o : (s.recordSwitch).warm_o = s.warm_o := rfl
@[simp] theorem State.recordSwitch_cool_o : (s.recordSwitch).cool_o = s.cool_o := rfl
@[simp] theorem State.recordSwitch_inputs : (s.recordSwitch).inputs = s.inputs := rfl
@[simp] theorem State.recordSwitch_cycle : (s.recordSwitch).cycle = s.cycle := rfl

@[simp] theorem State.transition_cfg (m : Mode) : (s.transition m).cfg = s.cfg := rfl
@[simp] theorem State.transition_now_us (m : Mode) : (s.transition m).now_us = s.now_us := rfl
@[simp] theorem State.transition_t (m : Mode) : (s.transition m).t = s.t := rfl
@[simp] theorem State.transition_mode (m : Mode) : (s.transition m).mode = m := rfl
@[simp] theorem State.transition_prev_sw (m : Mode) : (s.transition m).prev_sw = s.prev_sw := rfl
@[simp] theorem State.transition_phase_acc (m : Mode) : (s.transition m).phase_acc = 0 := rfl
@[simp] theorem State.transition_last_ts (m : Mode) : (s.transition m).last_ts = s.nextNow := rfl
@[simp] theorem State.transition_dim_reg (m : Mode) : (s.transition m).dim_reg = s.dim_reg := rfl
@[simp] theorem State.transition_blank (m : Mode) : (s.transition m).blank = true := rfl
@[simp] theorem State.transition_plan_w (m : Mode) : (s.transition m).plan_w = 0 := rfl
@[simp] theorem State.transition_plan_c (m : Mode) : (s.transition m).plan_c = 0 := rfl
@[simp] theorem State.transition_warm_o (m : Mode) : (s.transition m).warm_o = s.warm_o := rfl
@[simp] theorem State.transition_cool_o (m : Mode) : (s.transition m).cool_o = s.cool_o := rfl
@[simp] theorem State.transition_inputs (m : Mode) : (s.transition m).inputs = s.inputs := rfl
@[simp] theorem State.transition_cycle (m : Mode) : (s.transition m).cycle = s.cycle := rfl

@[simp] theorem State.update_cfg (p d : Nat) : (s.update p d).cfg = s.cfg := rfl
@[simp] theorem State.update_now_us (p d : Nat) : (s.update p d).now_us = s.now_us := rfl
@[simp] theorem State.update_t (p d : Nat) : (s.update p d).t = s.t := rfl
@[simp] theorem State.update_mode (p d : Nat) : (s.update p d).mode = s.mode := rfl
@[simp] theorem State.update_prev_sw (p d : Nat) : (s.update p d).prev_sw = s.prev_sw := rfl
@[simp] theorem State.update_phase_acc (p d : Nat) : (s.update p d).phase_acc = p := rfl
@[simp] theorem State.update_last_ts (p d : Nat) : (s.update p d).last_ts = s.nextNow := rfl
@[simp] theorem State.update_dim_reg (p d : Nat) : (s.update p d).dim_reg = d := rfl
@[simp] theorem State.update_blank (p d : Nat) : (s.update p d).blank = s.blank := rfl
@[simp] theorem State.update_plan_w (p d : Nat) : (s.update p d).plan_w = s.plan_w := rfl
@[simp] theorem State.update_plan_c (p d : Nat) : (s.update p d).plan_c = s.plan_c := rfl
@[simp] theorem State.update_warm_o (p d : Nat) : (s.update p d).warm_o = s.warm_o := rfl
@[simp] theorem State.update_cool_o (p d : Nat) : (s.update p d).cool_o = s.cool_o := rfl
@[simp] theorem State.update_inputs (p d : Nat) : (s.update p d).inputs = s.inputs := rfl
@[simp] theorem State.update_cycle (p d : Nat) : (s.update p d).cycle = s.cycle := rfl

@[simp] theorem State.updateFrozen_cfg (d : Nat) : (s.updateFrozen d).cfg = s.cfg := rfl
@[simp] theorem State.updateFrozen_now_us (d : Nat) : (s.updateFrozen d).now_us = s.now_us := rfl
@[simp] theorem State.updateFrozen_t (d : Nat) : (s.updateFrozen d).t = s.t := rfl
@[simp] theorem State.updateFrozen_mode (d : Nat) : (s.updateFrozen d).mode = s.mode := rfl
@[simp] theorem State.updateFrozen_prev_sw (d : Nat) : (s.updateFrozen d).prev_sw = s.prev_sw := rfl
@[simp] theorem State.updateFrozen_phase_acc (d : Nat) : (s.updateFrozen d).phase_acc = s.phase_acc := rfl
@[simp] theorem State.updateFrozen_last_ts (d : Nat) : (s.updateFrozen d).last_ts = s.nextNow := rfl
@[simp] theorem State.updateFrozen_dim_reg (d : Nat) : (s.updateFrozen d).dim_reg = d := rfl
@[simp] theorem State.updateFrozen_blank (d : Nat) : (s.updateFrozen d).blank = s.blank := rfl
@[simp] theorem State.updateFrozen_plan_w (d : Nat) : (s.updateFrozen d).plan_w = s.plan_w := rfl
@[simp] theorem State.updateFrozen_plan_c (d : Nat) : (s.updateFrozen d).plan_c = s.plan_c := rfl
@[simp] theorem State.updateFrozen_warm_o (d : Nat) : (s.updateFrozen d).warm_o = s.warm_o := rfl
@[simp] theorem State.updateFrozen_cool_o (d : Nat) : (s.updateFrozen d).cool_o = s.cool_o := rfl
@[simp] theorem State.updateFrozen_inputs (d : Nat) : (s.updateFrozen d).inputs = s.inputs := rfl
@[simp] theorem State.updateFrozen_cycle (d : Nat) : (s.updateFrozen d).cycle = s.cycle := rfl

@[simp] theorem State.emit_cfg (p : PulsePlan) : (s.emit p).cfg = s.cfg := rfl
@[simp] theorem State.emit_now_us (p : PulsePlan) : (s.emit p).now_us = s.now_us := rfl
@[simp] theorem State.emit_t (p : PulsePlan) : (s.emit p).t = s.t := rfl
@[simp] theorem State.emit_mode (p : PulsePlan) : (s.emit p).mode = s.mode := rfl
@[simp] theorem State.emit_prev_sw (p : PulsePlan) : (s.emit p).prev_sw = s.prev_sw := rfl
@[simp] theorem State.emit_phase_acc (p : PulsePlan) : (s.emit p).phase_acc = s.phase_acc := rfl
@[simp] theorem State.emit_last_ts (p : PulsePlan) : (s.emit p).last_ts = s.last_ts := rfl
@[simp] theorem State.emit_dim_reg (p : PulsePlan) : (s.emit p).dim_reg = s.dim_reg := rfl
@[simp] theorem State.emit_blank (p : PulsePlan) : (s.emit p).blank = false := rfl
@[simp] theorem State.emit_plan_w (p : PulsePlan) : (s.emit p).plan_w = p.w := rfl
@[simp] theorem State.emit_plan_c (p : PulsePlan) : (s.emit p).plan_c = p.c := rfl
@[simp] theorem State.emit_warm_o (p : PulsePlan) : (s.emit p).warm_o = s.warm_o := rfl
@[simp] theorem State.emit_cool_o (p : PulsePlan) : (s.emit p).cool_o = s.cool_o := rfl
@[simp] theorem State.emit_inputs (p : PulsePlan) : (s.emit p).inputs = s.inputs := rfl
@[simp] theorem State.emit_cycle (p : PulsePlan) : (s.emit p).cycle = s.cycle := rfl

@[simp] theorem State.count_cfg : (s.count).cfg = s.cfg := rfl
@[simp] theorem State.count_now_us : (s.count).now_us = s.nextNow := rfl
@[simp] theorem State.count_t : (s.count).t = s.nextT := rfl
@[simp] theorem State.count_mode : (s.count).mode = s.mode := rfl
@[simp] theorem State.count_prev_sw : (s.count).prev_sw = s.prev_sw := rfl
@[simp] theorem State.count_phase_acc : (s.count).phase_acc = s.phase_acc := rfl
@[simp] theorem State.count_last_ts : (s.count).last_ts = s.last_ts := rfl
@[simp] theorem State.count_dim_reg : (s.count).dim_reg = s.dim_reg := rfl
@[simp] theorem State.count_blank : (s.count).blank = s.blank := rfl
@[simp] theorem State.count_plan_w : (s.count).plan_w = s.plan_w := rfl
@[simp] theorem State.count_plan_c : (s.count).plan_c = s.plan_c := rfl
@[simp] theorem State.count_warm_o : (s.count).warm_o = s.warm_o := rfl
@[simp] theorem State.count_cool_o : (s.count).cool_o = s.cool_o := rfl
@[simp] theorem State.count_inputs : (s.count).inputs = s.inputs.tail := rfl
@[simp] theorem State.count_cycle : (s.count).cycle = s.cycle + 1 := rfl

@[simp] theorem State.resetRegisters_cfg : (s.resetRegisters).cfg = s.cfg := rfl
@[simp] theorem State.resetRegisters_now_us : (s.resetRegisters).now_us = s.cfg.resetNowUs := rfl
@[simp] theorem State.resetRegisters_t : (s.resetRegisters).t = s.cfg.resetT := rfl
@[simp] theorem State.resetRegisters_mode : (s.resetRegisters).mode = .crossfade := rfl
@[simp] theorem State.resetRegisters_prev_sw : (s.resetRegisters).prev_sw = s.cfg.resetPrevSw := rfl
@[simp] theorem State.resetRegisters_phase_acc : (s.resetRegisters).phase_acc = 0 := rfl
@[simp] theorem State.resetRegisters_last_ts : (s.resetRegisters).last_ts = 0 := rfl
@[simp] theorem State.resetRegisters_dim_reg : (s.resetRegisters).dim_reg = 0 := rfl
@[simp] theorem State.resetRegisters_blank : (s.resetRegisters).blank = true := rfl
@[simp] theorem State.resetRegisters_plan_w : (s.resetRegisters).plan_w = 0 := rfl
@[simp] theorem State.resetRegisters_plan_c : (s.resetRegisters).plan_c = 0 := rfl
@[simp] theorem State.resetRegisters_warm_o : (s.resetRegisters).warm_o = s.warm_o := rfl
@[simp] theorem State.resetRegisters_cool_o : (s.resetRegisters).cool_o = s.cool_o := rfl
@[simp] theorem State.resetRegisters_inputs : (s.resetRegisters).inputs = s.inputs.tail := rfl
@[simp] theorem State.resetRegisters_cycle : (s.resetRegisters).cycle = s.cycle + 1 := rfl

@[simp] theorem State.drive_cfg (w c : Bool) : (s.drive w c).cfg = s.cfg := rfl
@[simp] theorem State.drive_now_us (w c : Bool) : (s.drive w c).now_us = s.now_us := rfl
@[simp] theorem State.drive_t (w c : Bool) : (s.drive w c).t = s.t := rfl
@[simp] theorem State.drive_mode (w c : Bool) : (s.drive w c).mode = s.mode := rfl
@[simp] theorem State.drive_prev_sw (w c : Bool) : (s.drive w c).prev_sw = s.prev_sw := rfl
@[simp] theorem State.drive_phase_acc (w c : Bool) : (s.drive w c).phase_acc = s.phase_acc := rfl
@[simp] theorem State.drive_last_ts (w c : Bool) : (s.drive w c).last_ts = s.last_ts := rfl
@[simp] theorem State.drive_dim_reg (w c : Bool) : (s.drive w c).dim_reg = s.dim_reg := rfl
@[simp] theorem State.drive_blank (w c : Bool) : (s.drive w c).blank = s.blank := rfl
@[simp] theorem State.drive_plan_w (w c : Bool) : (s.drive w c).plan_w = s.plan_w := rfl
@[simp] theorem State.drive_plan_c (w c : Bool) : (s.drive w c).plan_c = s.plan_c := rfl
@[simp] theorem State.drive_warm_o (w c : Bool) : (s.drive w c).warm_o = w := rfl
@[simp] theorem State.drive_cool_o (w c : Bool) : (s.drive w c).cool_o = c := rfl
@[simp] theorem State.drive_inputs (w c : Bool) : (s.drive w c).inputs = s.inputs := rfl
@[simp] theorem State.drive_cycle (w c : Bool) : (s.drive w c).cycle = s.cycle := rfl

/-! The clock operands of an update are those of the state updated. -/

@[simp] theorem State.recordSwitch_nextNow : (s.recordSwitch).nextNow = s.nextNow := rfl
@[simp] theorem State.recordSwitch_nextT : (s.recordSwitch).nextT = s.nextT := rfl
@[simp] theorem State.update_nextNow (p d : Nat) : (s.update p d).nextNow = s.nextNow := rfl
@[simp] theorem State.update_nextT (p d : Nat) : (s.update p d).nextT = s.nextT := rfl
@[simp] theorem State.updateFrozen_nextNow (d : Nat) : (s.updateFrozen d).nextNow = s.nextNow := rfl
@[simp] theorem State.updateFrozen_nextT (d : Nat) : (s.updateFrozen d).nextT = s.nextT := rfl
end Sys2Proof.Machine
end

