-- ==== Sys2Proof/Laws/Step.lean ====
section
/-! SUPPORT. Once for each shared operation, everything it can do: the ROM read, the lookup, the tick and cycle operations, and the
clock edge. Claims about the step cite these instead of unfolding it. -/

namespace Sys2Proof

open Machine

/-- What a ROM read answers (20_memory.md R42): the signed value of a word in range. -/
theorem Config.memRead_ok {c : Config} {i : Nat} {q : Int} (h : c.memRead i = .ok q) :
    ∃ w, c.rom[i]? = some w ∧ romWordInRange w = true ∧ q = w.toInt := by
  unfold Config.memRead at h
  split at h
  · cases h
  · rename_i w hw
    split at h
    · exact ⟨w, hw, ‹_›, by injection h with h; exact h.symm⟩
    · cases h

/-- In a block the lookup answers (40_waveform_table.md R80). -/
theorem Config.lookup_ok {c : Config} (hb : c.Block) (p : Nat) :
    ∃ w, c.rom[c.idx p]? = some w ∧ romWordInRange w = true ∧ c.lookup p = .ok w.toInt := by
  have hi : c.idx p < c.n := Nat.mod_lt _ (Config.n_pos hb.1)
  obtain ⟨w, hw, hr⟩ := Config.rom_get hb.2 hi
  exact ⟨w, hw, hr, by simp [Config.lookup, Config.memRead, hw, hr]⟩

namespace Machine

/-- A next state after `andThen` comes from a next state of its first part. -/
theorem andThen_next {r : Result} {f : State → Result} {s' : State} (h : andThen r f = .next s') :
    ∃ s1, r = .next s1 ∧ f s1 = .next s' := by
  cases r with
  | next s1 => exact ⟨s1, rfl, h⟩
  | fault e => cases h
  | refused e => cases h

/-- A next state after `withBlend` comes from a blend value. -/
theorem withBlend_next {q : Except Fault Int} {f : Int → State} {s' : State} (h : withBlend q f = .next s') :
    ∃ sq, q = .ok sq ∧ s' = f sq := by
  cases q with
  | ok sq => exact ⟨sq, rfl, by cases h; rfl⟩
  | error e => cases h

/-- The cycle operation of any state drives the output function's values and writes nothing else (42_pulse_scheduler.md R119). -/
theorem driveOutputs_eq (s : State) : driveOutputs s = .next (s.drive s.out.1 s.out.2) := by
  unfold driveOutputs State.cpc State.out decodeCpc
  rw [word3_bit2, word3_bit1, word3_bit0]
  cases hb : s.blank
  · by_cases hh : s.t < s.cfg.h
    · have hhalf : s.half = false := by simp [State.half, hh]
      by_cases hp : s.t < s.plan_w
      · have hact : s.act = true := by simp [State.act, hhalf, hp]
        simp only [hhalf, hact, hh, hp, exec, execWOn]; rfl
      · have hact : s.act = false := by simp [State.act, hhalf, hp]
        simp only [hhalf, hact, hh, hp, exec, execWRem]; rfl
    · have hhalf : s.half = true := by simpa [State.half] using hh
      by_cases hp : s.t - s.cfg.h < s.plan_c
      · have hact : s.act = true := by simp [State.act, hhalf, hp]
        simp only [hhalf, hact, hh, hp, exec, execCOn]; rfl
      · have hact : s.act = false := by simp [State.act, hhalf, hp]
        simp only [hhalf, hact, hh, hp, exec, execCRem]; rfl
  · simp [exec, execBlank]

/-- The registers a tick operation leaves, by the three ways a poll goes: transition, update, hold (60_exceptions.md R139). -/
inductive TickResult (s : State) : State → Prop where
  /-- CHG = 1 (R88, R89). -/
  | transition (hchg : s.tgt ≠ s.mode) : TickResult s (s.recordSwitch.transition s.tgt)
  /-- UPD = 1 in Crossfade (R100). -/
  | updateCrossfade (hsame : s.tgt = s.mode) (hupd : s.cfg.interval ≤ s.elapsed.toNat) (hm : s.mode = .crossfade) (sq : Int)
      (hq : s.cfg.lookup s.advancedPhase = .ok sq) :
      TickResult s ((s.recordSwitch.update s.advancedPhase s.dimSample).emit (s.cfg.plan sq s.dimSample))
  /-- UPD = 1 in AllOn (R102). -/
  | updateAllOn (hsame : s.tgt = s.mode) (hupd : s.cfg.interval ≤ s.elapsed.toNat) (hm : s.mode = .allOn) :
      TickResult s ((s.recordSwitch.updateFrozen s.dimSample).emit (s.cfg.plan 0 s.dimSample))
  /-- A hold in Crossfade (R99). -/
  | holdCrossfade (hsame : s.tgt = s.mode) (hupd : s.elapsed.toNat < s.cfg.interval) (hm : s.mode = .crossfade) (sq : Int)
      (hq : s.cfg.lookup s.phase_acc = .ok sq) :
      TickResult s (s.recordSwitch.emit (s.cfg.plan sq s.dim_reg))
  /-- A hold in AllOn (R101). -/
  | holdAllOn (hsame : s.tgt = s.mode) (hupd : s.elapsed.toNat < s.cfg.interval) (hm : s.mode = .allOn) :
      TickResult s (s.recordSwitch.emit (s.cfg.plan 0 s.dim_reg))

/-- The meaning the tick operation of a poll runs, by the conditions of the step (30_encoding.md R58). -/
theorem tickOperation_eq (s : State) : tickOperation s =
    if s.tgt ≠ s.mode then .next (s.recordSwitch.transition s.tgt)
    else match s.mode with
      | .crossfade => if s.cfg.interval ≤ s.elapsed.toNat then execXfUpd s else execXfHold s
      | .allOn => if s.cfg.interval ≤ s.elapsed.toNat then execAoUpd s else execAoHold s := by
  unfold tickOperation State.tdw decodeTdw
  rw [word3_bit2, word3_bit1, word3_bit0]
  unfold State.chg State.md State.upd
  by_cases hc : s.tgt = s.mode
  · by_cases hu : s.cfg.interval ≤ s.elapsed.toNat <;> cases hm : s.mode <;>
      simp [hc, hu, hm, Mode.toBit, exec]
  · rw [decide_eq_true hc, if_pos hc]
    cases s.tgt <;> rfl

/-- Everything a tick operation can do. -/
theorem tickOperation_next {s s' : State} (h : tickOperation s = .next s') : TickResult s s' := by
  rw [tickOperation_eq] at h
  split at h
  next hc => cases h; exact .transition hc
  next hc =>
    have hc' : s.tgt = s.mode := not_not.mp hc
    split at h
    next hm =>
      split at h
      next hu => obtain ⟨sq, hq, rfl⟩ := withBlend_next h; exact .updateCrossfade hc' hu hm sq hq
      next hu => obtain ⟨sq, hq, rfl⟩ := withBlend_next h; exact .holdCrossfade hc' (by omega) hm sq hq
    next hm =>
      split at h
      next hu => cases h; exact .updateAllOn hc' hu hm
      next hu => cases h; exact .holdAllOn hc' (by omega) hm

/-- Everything the registers can become in one step: reset, counting, or counting after a tick operation. -/
inductive EdgeResult (s : State) : State → Prop where
  | reset (hr : s.inRst = true) : EdgeResult s s.resetRegisters
  | count (hr : s.inRst = false) (hp : s.nextT ≠ 0) : EdgeResult s s.count
  | poll (hr : s.inRst = false) (hp : s.nextT = 0) (s1 : State) (ht : TickResult s s1) : EdgeResult s s1.count

/-- Everything a step can do (41_phase_mode.md R104): the configuration is legal, the registers go as `EdgeResult` says, and the
outputs show the state reached. -/
theorem step_next {s s' : State} (h : step s = .next s') :
    s.cfg.refusal = none ∧ ∃ s1, EdgeResult s s1 ∧ s' = s1.drive s1.out.1 s1.out.2 := by
  unfold step at h
  split at h
  · cases h
  · rename_i hcfg
    refine ⟨hcfg, ?_⟩
    unfold clockEdge at h
    split at h
    · rename_i hr
      rw [driveOutputs_eq] at h
      cases h
      exact ⟨_, .reset hr, rfl⟩
    · rename_i hr
      have hr' : s.inRst = false := by simpa using hr
      split at h
      · rename_i hp
        obtain ⟨s1, h1, h2⟩ := andThen_next h
        rw [driveOutputs_eq] at h2
        cases h2
        exact ⟨_, .poll hr' (by simpa [State.polls] using hp) s1 (tickOperation_next h1), rfl⟩
      · rename_i hp
        rw [driveOutputs_eq] at h
        cases h
        exact ⟨_, .count hr' (by simpa [State.polls] using hp), rfl⟩

/-- A reset step of a legal configuration (70_reset_and_hazards.md R151). -/
theorem step_reset {s : State} (h : s.cfg.refusal = none) (hr : s.inRst = true) :
    step s = .next (s.resetRegisters.drive false false) := by
  simp only [step, h, clockEdge, hr, if_true]
  rw [driveOutputs_eq]; rfl

/-- A non-reset step that is no poll (41_phase_mode.md R103). -/
theorem step_count {s : State} (h : s.cfg.refusal = none) (hr : s.inRst = false) (hp : s.nextT ≠ 0) :
    step s = .next (s.count.drive s.count.out.1 s.count.out.2) := by
  simp only [step, h, clockEdge, hr, State.polls, hp, decide_false, Bool.false_eq_true, if_false]
  rw [driveOutputs_eq]

/-- A poll step: the tick operation, counting, the outputs of the cycle entered (R104). -/
theorem step_poll {s : State} (h : s.cfg.refusal = none) (hr : s.inRst = false) (hp : s.nextT = 0) :
    step s = andThen (tickOperation s) fun s1 => .next (s1.count.drive s1.count.out.1 s1.count.out.2) := by
  simp only [step, h, clockEdge, hr, State.polls, hp, decide_true, Bool.false_eq_true, if_false, if_true, driveOutputs_eq]

/-- In a block every tick operation completes. -/
theorem tickOperation_ok {s : State} (hb : s.cfg.Block) : ∃ s1, tickOperation s = .next s1 := by
  rw [tickOperation_eq]
  split
  · exact ⟨_, rfl⟩
  · split <;> split
    · obtain ⟨w, _, _, hl⟩ := Config.lookup_ok hb s.advancedPhase
      simp only [execXfUpd, hl, withBlend]; exact ⟨_, rfl⟩
    · obtain ⟨w, _, _, hl⟩ := Config.lookup_ok hb s.phase_acc
      simp only [execXfHold, hl, withBlend]; exact ⟨_, rfl⟩
    · exact ⟨_, rfl⟩
    · exact ⟨_, rfl⟩

/-- A tick operation uses up no input word and moves no counter. -/
theorem TickResult.bookkeeping {s s1 : State} (h : TickResult s s1) :
    s1.cfg = s.cfg ∧ s1.inputs = s.inputs ∧ s1.cycle = s.cycle ∧ s1.now_us = s.now_us ∧ s1.t = s.t := by
  cases h <;> exact ⟨rfl, rfl, rfl, rfl, rfl⟩

/-- Every edge keeps the configuration and uses up one input word. -/
theorem EdgeResult.bookkeeping {s s1 : State} (h : EdgeResult s s1) :
    s1.cfg = s.cfg ∧ s1.inputs = s.inputs.tail ∧ s1.cycle = s.cycle + 1 := by
  cases h with
  | reset => exact ⟨rfl, rfl, rfl⟩
  | count => exact ⟨rfl, rfl, rfl⟩
  | poll _ _ s1 ht =>
    obtain ⟨h1, h2, h3, _⟩ := ht.bookkeeping
    exact ⟨h1, by simp [h2], by simp [h3]⟩

/-- Driving the outputs does not change what they should be. -/
@[simp] theorem State.drive_out (s : State) (w c : Bool) : (s.drive w c).out = s.out := rfl

end Machine

end Sys2Proof
end

