-- ==== Sys2Proof/Laws/Runs.lean ====
section
/-! SUPPORT. Runs of the machine, one step at a time, and the input words along them. -/

namespace Sys2Proof.Machine

theorem runs_zero (s : State) : runs 0 s = .next s := rfl

/-- A run of a + b steps is a run of a steps and one of b steps after it. -/
theorem runs_add (a b : Nat) : ∀ s : State, runs (a + b) s = andThen (runs a s) (runs b) := by
  induction a with
  | zero => intro s; rw [Nat.zero_add]; rfl
  | succ a ih =>
    intro s
    rw [show a + 1 + b = (a + b) + 1 by omega]
    show andThen (step s) (runs (a + b)) = andThen (andThen (step s) (runs a)) (runs b)
    cases step s with
    | next s1 => exact ih s1
    | fault _ => rfl
    | refused _ => rfl

theorem runs_succ (k : Nat) (s : State) : runs (k + 1) s = andThen (step s) (runs k) := rfl

/-- The host's run of any machine, after a step that goes on. -/
theorem core_run_of_next {M : Host.Core} {s s' : M.State} (k : Nat) (h : M.step s = .next s') :
    M.run (k + 1) s = M.run k s' := by
  show (match M.step s with | .next s' => M.run k s' | .fault r => .fault r | .refused r => .refused r) = _
  rw [h]

/-- A run that goes through is the host's run. -/
theorem core_run_of_runs (k : Nat) : ∀ s s' : State, runs k s = .next s' → Host.Core.run Sys2Proof.core k s = .next s' := by
  induction k with
  | zero => intro s s' h; exact h
  | succ k ih =>
    intro s s' h
    obtain ⟨s1, h1, h2⟩ := andThen_next (runs_succ k s ▸ h)
    exact (core_run_of_next (M := Sys2Proof.core) k h1).trans (ih s1 s' h2)

/-- One more step at the end of a run. -/
theorem runs_snoc (k : Nat) : ∀ s : State, runs (k + 1) s = andThen (runs k s) step := by
  induction k with
  | zero => intro s; rw [runs_succ, runs_zero]; cases h : step s <;> simp [andThen, h, runs_zero]
  | succ k ih =>
    intro s
    rw [runs_succ, runs_succ]
    cases h : step s with
    | next s1 => exact ih s1
    | fault e => rfl
    | refused e => rfl

/-- After a step the j-th coming input word is the one that was (j + 1)-th. -/
theorem inWordAt_of_tail {s s' : State} (hi : s'.inputs = s.inputs.tail) (hn : s'.cycle = s.cycle + 1) (j : Nat) :
    s'.inWordAt j = s.inWordAt (j + 1) := by
  unfold State.inWordAt
  rw [hi, hn, List.getElem?_tail, show s.cycle + 1 + j = s.cycle + (j + 1) by omega]

/-- The coming inputs after a step. -/
theorem step_inputs {s s' : State} (h : step s = .next s') :
    s'.cfg = s.cfg ∧ ∀ j, s'.rstAt j = s.rstAt (j + 1) ∧ s'.swAt j = s.swAt (j + 1) := by
  obtain ⟨_, s1, he, rfl⟩ := step_next h
  obtain ⟨hc, hi, hn⟩ := he.bookkeeping
  refine ⟨hc, fun j => ?_⟩
  have := inWordAt_of_tail (s := s) (s' := s1.drive s1.out.1 s1.out.2) hi hn j
  unfold State.rstAt State.swAt
  rw [this]
  exact ⟨by rw [show (s1.drive s1.out.1 s1.out.2).cfg = s.cfg from hc],
    by rw [show (s1.drive s1.out.1 s1.out.2).cfg = s.cfg from hc]⟩

/-- The ROM keeps its canonical form (20_memory.md R40, R41): no step writes it. -/
theorem step_romWellFormed {s s' : State} (h : step s = .next s') (hr : s.cfg.romWellFormed = true) :
    s'.cfg.romWellFormed = true := by rw [(step_inputs h).1]; exact hr

/-- The ROM of the reset state has its canonical form. -/
theorem reset_romWellFormed : State.reset.cfg.romWellFormed = true := default_romWellFormed

/-- A run without reset steps goes on without one after its first step. -/
theorem noResetFor_tail {s s' : State} {k : Nat} (h : step s = .next s') (hn : s.NoResetFor (k + 1)) : s'.NoResetFor k :=
  fun j hj => by rw [((step_inputs h).2 j).1]; exact hn (j + 1) (by omega)

/-- A non-reset step moves the position on and counts the microsecond (41_phase_mode.md R103, R104). -/
theorem step_counts {s s' : State} (h : step s = .next s') (hr : s.inRst = false) : s'.t = s.nextT ∧ s'.now_us = s.nextNow := by
  obtain ⟨_, s1, he, rfl⟩ := step_next h
  cases he with
  | reset h1 => rw [hr] at h1; cases h1
  | count => exact ⟨rfl, rfl⟩
  | poll _ _ s2 ht =>
    obtain ⟨hc, _, _, hn, hp⟩ := ht.bookkeeping
    constructor
    · show (s2.t + 1) % s2.cfg.slot = _; rw [hp, hc]; rfl
    · show s2.now_us + 1 = _; rw [hn]; rfl

/-- The switch's targets at the polls to come go on after a non-reset step. -/
theorem pollsTarget_tail {s s' : State} {k : Nat} {m : Mode} (h : step s = .next s') (hr : s.inRst = false)
    (hp : s.PollsTarget (k + 1) m) : s'.PollsTarget k m := by
  intro j hj h0
  rw [(step_inputs h).1] at h0 ⊢
  rw [((step_inputs h).2 j).2]
  refine hp (j + 1) (by omega) ?_
  rw [(step_counts h hr).1, State.nextT, Nat.add_assoc, Nat.mod_add_mod] at h0
  rw [← h0]; congr 1; omega

/-- Below the last position the next position is one up. -/
theorem nextT_of_lt {s : State} (h : s.t + 1 < s.cfg.slot) : s.nextT = s.t + 1 := Nat.mod_eq_of_lt h

end Sys2Proof.Machine
end

