-- ==== Sys2Proof/Tests/Slice0.lean ====
section
/-! SUPPORT. Tests. Expected values are the spec's own vectors (95_test_vectors.md, cited as V-..., P1-P5, and the worked examples of the
operation rules); the `witness_` theorems show a concrete input that meets the hypotheses of the obligation they name. -/

namespace Sys2Proof.Tests

open Sys2Proof Sys2Proof.Machine

/-! ## Small configurations and states -/

/-- V-ROM-22. -/
def rom8 : List RomWord := [0, 11585, 16384, 11585, 0, -11585, -16384, -11585]

/-- The configuration of program P4. -/
def small : Config :=
  { Config.default with tableN := 8, cyclePeriodMs := 1, halfPeriodUs := 8, updateIntervalUs := 16, rom := rom8 }

/-- A state one step before a poll that sees elapsed time `e`, with the inputs of the coming steps. -/
def beforePoll (c : Config) (m : Mode) (e : Nat) (ins : List Nat) : State :=
  { State.resetFor c with
    now_us := BitVec.ofNat 32 (15 + e), last_ts := 16, mode := m, prev_sw := m.toBit, dim_reg := 512, blank := false, inputs := ins }

/-- A cycle in the middle of a tick of plan (405, 259) of the default configuration, as in V-CPC-01 to V-CPC-08. -/
def midTick (t : Nat) : State := { State.reset with t := t, blank := false, plan_w := 405, plan_c := 259 }

/-- The registers an operation writes. -/
structure Regs where
  mode : Mode
  prev_sw : Bool
  phase_acc : Nat
  last_ts : Timestamp
  dim_reg : Nat
  blank : Bool
  plan_w : Nat
  plan_c : Nat
  deriving DecidableEq, Repr

/-- The registers after an operation or a step. -/
def regs (r : Result) : Option Regs :=
  match r with
  | .next s => some ⟨s.mode, s.prev_sw, s.phase_acc, s.last_ts, s.dim_reg, s.blank, s.plan_w, s.plan_c⟩
  | .fault _ => none
  | .refused _ => none

/-- The counters and the outputs after a step. -/
def shown (r : Result) : Option (Timestamp × Nat × Bool × Bool) :=
  match r with
  | .next s => some (s.now_us, s.t, s.warm_o, s.cool_o)
  | .fault _ => none
  | .refused _ => none

/-- A step answers a next state. -/
def goesOn (r : Result) : Bool :=
  match r with
  | .next _ => true
  | .fault _ => false
  | .refused _ => false

theorem goesOn_next {r : Result} (h : goesOn r = true) : ∃ s, r = .next s := by
  cases r with
  | next s => exact ⟨s, rfl⟩
  | fault _ => cases h
  | refused _ => cases h

/-! ## Decoding: words written out from 30_encoding.md R58 and R62 -/

theorem test_decode_trXf : decodeTdw 0b100 = .trXf false ∧ decodeTdw 0b110 = .trXf true := by decide

theorem test_decode_trAo : decodeTdw 0b101 = .trAo false ∧ decodeTdw 0b111 = .trAo true := by decide

theorem test_decode_xf : decodeTdw 0b000 = .xfHold ∧ decodeTdw 0b010 = .xfUpd := by decide

theorem test_decode_ao : decodeTdw 0b001 = .aoHold ∧ decodeTdw 0b011 = .aoUpd := by decide

theorem test_decode_blank : decodeCpc 0b100 = .blank false false ∧ decodeCpc 0b101 = .blank false true ∧
    decodeCpc 0b110 = .blank true false ∧ decodeCpc 0b111 = .blank true true := by decide

theorem test_decode_warm : decodeCpc 0b001 = .wOn ∧ decodeCpc 0b000 = .wRem := by decide

theorem test_decode_cool : decodeCpc 0b011 = .cOn ∧ decodeCpc 0b010 = .cRem := by decide

theorem test_decode_container : decodeTableWord 8 0b010 = some .xfUpd ∧ decodeTableWord 8 0b1010 = some .cRem := by decide

theorem test_decode_refuses_reserved_bits : decode [0b00010000] = .error .reservedBits := by decide

theorem test_decode_refuses_no_byte : decode [] = .error .empty := by decide

/-! ## Well-formedness: an ill-formed term for each check -/

theorem test_input_word_in_width : Config.default.inputWellFormed 0xFFF = true := by decide

theorem test_input_word_too_wide_refused : Config.default.inputWellFormed 0x1000 = false := by decide

theorem test_rom_well_formed : small.romWellFormed = true := by decide

theorem test_short_rom_refused : ({ small with rom := rom8.tail } : Config).romWellFormed = false := by decide

theorem test_rom_word_out_of_range_refused :
    ({ small with rom := 16385 :: rom8.tail } : Config).romWellFormed = false := by decide

/-! ## Elaboration: 60_exceptions.md R137, one illegal configuration per reason, both ends of a range -/

theorem test_small_legal : small.refusal = none := by decide

theorem test_default_legal : Config.default.refusal = none := by decide

theorem test_refused_table : step { State.reset with cfg := { small with tableN := 0 } } = .refused .CFG_TABLE_N := by rfl

theorem test_refused_cycle_period :
    step { State.reset with cfg := { small with cyclePeriodMs := -1 } } = .refused .CFG_CYCLE_PERIOD := by rfl

theorem test_refused_half_period :
    step { State.reset with cfg := { small with halfPeriodUs := 0 } } = .refused .CFG_HALF_PERIOD := by rfl

theorem test_refused_update_interval :
    step { State.reset with cfg := { small with updateIntervalUs := 4294967280 } } = .refused .CFG_UPDATE_INTERVAL ∧
      ({ small with updateIntervalUs := 4294967279 } : Config).refusal = none := ⟨rfl, by decide⟩

theorem test_refused_dimmer : step { State.reset with cfg := { small with maxRaw := 1024 } } = .refused .CFG_DIMMER ∧
    ({ small with dimW := 33 } : Config).refusal = some .CFG_DIMMER := ⟨rfl, by decide⟩

theorem test_refused_ratio : step { State.reset with cfg := { small with coolFactorQ16 := 65537 } } = .refused .CFG_RATIO := by
  rfl

theorem test_refused_xfade_level :
    step { State.reset with cfg := { small with xfadeLevel := 2 } } = .refused .CFG_XFADE_LEVEL := by rfl

/-! ## Derived constants, input words, ROM, operands -/

/-- 00_scope.md R8, the defaults. -/
theorem test_derived_constants : Config.default.periodUs = 6000000 ∧ Config.default.modulus = 21600000000 ∧
    Config.default.phW = 35 ∧ Config.default.idxW = 12 ∧ Config.default.slot = 2000 ∧ Config.default.slotW = 11 ∧
    Config.default.durW = 10 := by decide +kernel

/-- 30_encoding.md R72. -/
theorem test_input_words : Config.default.packInput false false 1023 = 0x3FF ∧ Config.default.packInput false true 512 = 0x600 ∧
    Config.default.packInput true false 0 = 0x800 := by decide

/-- V-ROM-02, 09, 12, 18, 21. -/
theorem test_rom_entries : Config.default.memRead 1 = .ok 29 ∧ Config.default.memRead 300 = .ok 8192 ∧
    Config.default.memRead 900 = .ok 16384 ∧ Config.default.memRead 2980 = .ok (-14466) ∧
    Config.default.memRead 3599 = .ok (-29) := by decide +kernel

/-- V-IX-02, 03, 06, 09. -/
theorem test_phase_index : Config.default.lookup 5999999 = .ok 0 ∧ Config.default.lookup 6000000 = .ok 29 ∧
    Config.default.lookup 21599999999 = .ok (-29) ∧ small.lookup 1024 = .ok 11585 := by decide +kernel

/-- V-EL-05 and V-EL-04: the timestamp has wrapped. -/
theorem test_elapsed_wraps :
    ({ State.reset with now_us := 4703, last_ts := 4294966000 } : State).elapsed = 6000 ∧
      ({ State.reset with now_us := 703, last_ts := 4294966000 } : State).upd = false := by decide +kernel

/-- V-PH-03, V-PH-04, V-PH-05. -/
theorem test_phase_advance :
    ({ State.reset with now_us := 4999, phase_acc := 21589200000 } : State).advancedPhase = 7200000 ∧
      ({ State.reset with now_us := 4294967294 } : State).advancedPhase = 17882262000 ∧
      ({ State.reset with now_us := 0, phase_acc := 21599999999 } : State).advancedPhase = 3599 := by decide +kernel

/-- 42_pulse_scheduler.md V-LIN-03 to 05, V-G-03, 04, 07, 08. -/
theorem test_lin_and_gamma : Config.default.lin 31443 = 65534 ∧ Config.default.lin 31444 = 65536 ∧
    Config.default.lin 32768 = 65536 ∧ gamma 41 = 1 ∧ gamma 3277 = 732 ∧ gamma 51937 = 46235 ∧ gamma 65535 = 65534 := by
  decide +kernel

/-- V-PL-01, 02, 09, 11, 13 and V-PL-23's clamped plan. -/
theorem test_plan : Config.default.plan 16384 1023 = ⟨999, 7⟩ ∧ Config.default.plan 0 1023 = ⟨402, 261⟩ ∧
    Config.default.plan (-16384) 1023 = ⟨11, 649⟩ ∧ Config.default.plan 15059 1023 = ⟨999, 17⟩ ∧
    Config.default.plan 16384 512 = ⟨500, 3⟩ ∧ small.plan 16384 1023 = ⟨7, 0⟩ := by decide +kernel

/-! ## Tick operations: the worked examples of 41_phase_mode.md -/

/-- R88's example: from AllOn at now' = 16000. -/
theorem test_trXf : regs (exec (.trXf true) { State.reset with
      mode := .allOn, prev_sw := true, now_us := 15999, last_ts := 14000, dim_reg := 512, plan_w := 201, plan_c := 130
      blank := false, inputs := [0x200] }) =
    some ⟨.crossfade, false, 0, 16000, 512, true, 0, 0⟩ := by decide +kernel

/-- R89's example: from Crossfade at now' = 8000. -/
theorem test_trAo : regs (exec (.trAo false) { State.reset with
      now_us := 7999, last_ts := 6000, phase_acc := 21600000, dim_reg := 1023, plan_w := 405, plan_c := 259
      blank := false, inputs := [0x7FF] }) =
    some ⟨.allOn, true, 0, 8000, 1023, true, 0, 0⟩ := by decide +kernel

/-- R99's example. -/
theorem test_xfHold : regs (exec .xfHold { State.reset with
      now_us := 703, last_ts := 4294966000, phase_acc := 7200000, dim_reg := 1023, inputs := [0x000] }) =
    some ⟨.crossfade, false, 7200000, 4294966000, 1023, false, 403, 260⟩ := by decide +kernel

/-- R100's example. -/
theorem test_xfUpd : regs (exec .xfUpd { State.reset with now_us := 5999, inputs := [0x3FF] }) =
    some ⟨.crossfade, false, 21600000, 6000, 1023, false, 405, 259⟩ := by decide +kernel

/-- P3's first poll: the phase wraps past M. -/
theorem test_xfUpd_wraps : regs (step { State.reset with
      now_us := 4294965999, phase_acc := 21589200000, last_ts := 4294961000, dim_reg := 1023, blank := false, plan_w := 405
      plan_c := 259, inputs := [0x3FF] }) =
    some ⟨.crossfade, false, 7200000, 4294966000, 1023, false, 403, 260⟩ := by decide +kernel

/-- R101's example. -/
theorem test_aoHold : regs (exec .aoHold { State.reset with
      mode := .allOn, now_us := 9999, last_ts := 8000, dim_reg := 1023, inputs := [0x400] }) =
    some ⟨.allOn, true, 0, 8000, 1023, false, 402, 261⟩ := by decide +kernel

/-- R102's example. -/
theorem test_aoUpd : regs (exec .aoUpd { State.reset with
      mode := .allOn, now_us := 13999, last_ts := 8000, dim_reg := 1023, inputs := [0x600] }) =
    some ⟨.allOn, true, 0, 14000, 512, false, 201, 130⟩ := by decide +kernel

/-- 41_phase_mode.md R110: a sample above MAX_RAW = 700 saturates. -/
theorem test_aoUpd_saturates : regs (exec .aoUpd { State.reset with
      cfg := { Config.default with maxRaw := 700 }, mode := .allOn, now_us := 13999, last_ts := 8000, inputs := [0x7FF] }) =
    some ⟨.allOn, true, 0, 14000, 700, false, 402, 261⟩ := by decide +kernel

/-! ## Cycle operations: V-CPC-01 to V-CPC-12 -/

theorem test_wOn : shown (exec .wOn (midTick 404)) = some (4294967295, 404, true, false) ∧
    (midTick 404).cpc = 0b001 ∧ (midTick 405).cpc = 0b000 := by decide +kernel

theorem test_wRem : shown (exec .wRem (midTick 999)) = some (4294967295, 999, false, false) ∧ (midTick 999).cpc = 0b000 := by
  decide +kernel

theorem test_cOn : shown (exec .cOn (midTick 1258)) = some (4294967295, 1258, false, true) ∧
    (midTick 1000).cpc = 0b011 ∧ (midTick 1258).cpc = 0b011 := by decide +kernel

theorem test_cRem : shown (exec .cRem (midTick 1259)) = some (4294967295, 1259, false, false) ∧
    (midTick 1259).cpc = 0b010 ∧ (midTick 1999).cpc = 0b010 := by decide +kernel

theorem test_blank : shown (exec (.blank true false) { midTick 1500 with blank := true, plan_w := 0, plan_c := 0 }) =
    some (4294967295, 1500, false, false) ∧
    ({ midTick 1500 with blank := true, plan_w := 0, plan_c := 0 } : State).cpc = 0b110 := by decide +kernel

/-- A step that enters t = 405 leaves the pulse, and one that enters t = 404 does not (V-CPC-02, V-CPC-03). -/
theorem test_pulse_ends : shown (step { midTick 403 with inputs := [0x3FF] }) = some (0, 404, true, false) ∧
    shown (step { midTick 404 with inputs := [0x3FF] }) = some (0, 405, false, false) := by decide +kernel

/-! ## Reset: V-RST-03 to V-RST-06 -/

theorem test_first_poll_holds : regs (step { State.reset with inputs := [0x3FF] }) =
    some ⟨.crossfade, false, 0, 0, 0, false, 0, 0⟩ := by decide +kernel

theorem test_first_poll_to_allOn : regs (step { State.reset with inputs := [0x7FF] }) =
    some ⟨.allOn, true, 0, 0, 0, true, 0, 0⟩ := by decide +kernel

theorem test_first_poll_interval_zero :
    regs (step { State.resetFor { small with updateIntervalUs := 0 } with inputs := [0x3FF] }) =
      some ⟨.crossfade, false, 0, 0, 1023, false, 3, 2⟩ := by decide +kernel

theorem test_reset_mid_tick : step { midTick 500 with now_us := 77, inputs := [0xFFF, 0x3FF] } =
    .next { State.reset with inputs := [0x3FF], cycle := 1 } := by rfl

/-- A word placed by `withFetchWord` is the one the very next step forms: AO.UPD as TDW, C.ON as CPC of the cycle entered. -/
theorem test_placed_word_runs : (State.reset.withFetchWord 8 0b011).tdw = 0b011 ∧
    ((State.reset.withFetchWord 8 0b1011).count.cpc) = 0b011 := by decide +kernel

/-! ## Witnesses: blocks -/

theorem small_block : small.Block := ⟨by decide, by decide⟩

theorem default_block : Config.default.Block := ⟨by decide, default_romWellFormed⟩

/-! ## Witnesses: formats and operands -/

theorem witness_DecodeAfterEncodeGivesOperation : (Instr.blank true false).wellFormed = true := rfl

theorem witness_InputWordFieldsReadBack : 1023 < 2 ^ Config.default.dimWidth ∧ 0 < 2 ^ Config.default.dimWidth := by decide

theorem witness_TickDecisionWordBits : (beforePoll small .allOn 16 [0x7FF]).tdw.getLsbD 2 = false := by decide

theorem witness_TickOperationByConditions_transitions :
    ((beforePoll small .allOn 16 [0x3FF]).tgt ≠ (beforePoll small .allOn 16 [0x3FF]).mode ∧
      (beforePoll small .allOn 16 [0x3FF]).tgt = .crossfade) ∧
    ((beforePoll small .crossfade 15 [0x7FF]).tgt ≠ (beforePoll small .crossfade 15 [0x7FF]).mode ∧
      (beforePoll small .crossfade 15 [0x7FF]).tgt = .allOn) := by decide

theorem witness_TickOperationByConditions_crossfade :
    ((beforePoll small .crossfade 15 [0x3FF]).tgt = .crossfade ∧
      (beforePoll small .crossfade 15 [0x3FF]).elapsed.toNat < small.interval) ∧
    ((beforePoll small .crossfade 16 [0x3FF]).tgt = .crossfade ∧
      small.interval ≤ (beforePoll small .crossfade 16 [0x3FF]).elapsed.toNat) := by decide

theorem witness_TickOperationByConditions_allOn :
    ((beforePoll small .allOn 15 [0x7FF]).tgt = .allOn ∧
      (beforePoll small .allOn 15 [0x7FF]).elapsed.toNat < small.interval) ∧
    ((beforePoll small .allOn 16 [0x7FF]).tgt = .allOn ∧
      small.interval ≤ (beforePoll small .allOn 16 [0x7FF]).elapsed.toNat) := by decide

theorem witness_CyclePhaseCodeBits : (midTick 999).t < (midTick 999).cfg.h ∧ (midTick 1000).cfg.h ≤ (midTick 1000).t := by decide

theorem witness_SwitchAndDimmerOperands :
    (((beforePoll small .allOn 16 [0x3FF]).inSw.toNat : Nat) : Int) = small.xfadeLevel ∧
    (((beforePoll small .allOn 16 [0x7FF]).inSw.toNat : Nat) : Int) ≠ small.xfadeLevel ∧
    small.maxRawN = 2 ^ small.dimWidth - 1 ∧ (beforePoll small .allOn 16 [0x7FF, 0x800]).inputs = 0x7FF :: [0x800] ∧
    (beforePoll small .allOn 16 [0x7FF, 0x800]).inputs[1]? = some 0x800 := by decide

theorem witness_PhaseIndexIsFloor : Config.default.refusal = none ∧ 21599999999 < Config.default.modulus ∧
    3599 < Config.default.n ∧ 5999999 < Config.default.periodUs := by decide

theorem witness_LookupReadsTheRom : Config.default.Block := default_block

theorem witness_RomReadStopsOutsideTheTable :
    ({ small with rom := [] } : Config).rom[({ small with rom := [] } : Config).idx
      ({ State.reset with cfg := { small with rom := [] } } : State).phase_acc]? = none ∧
    ({ small with rom := [] } : Config).rom[({ small with rom := [] } : Config).idx
      ({ State.reset with cfg := { small with rom := [] } } : State).advancedPhase]? = none ∧
    16384 < (16385 : RomWord).toInt ∧ (-16385 : RomWord).toInt < -16384 ∧
    ({ small with rom := [16385] } : Config).rom[({ small with rom := [16385] } : Config).idx
      ({ State.reset with cfg := { small with rom := [16385] } } : State).phase_acc]? = some 16385 ∧
    ({ small with rom := [-16385] } : Config).rom[({ small with rom := [-16385] } : Config).idx
      ({ State.reset with cfg := { small with rom := [-16385] } } : State).advancedPhase]? = some (-16385) := by decide

/-! ## Witnesses: the ROM contents -/

theorem witness_RomEntriesWithinEpsilon : Config.default.RomLaw ∧ ((3599 : Nat) : Int) < Config.default.tableN :=
  ⟨default_romLaw, by decide⟩

theorem witness_RomExactEntriesAndSymmetries : Config.default.RomLaw ∧ 1 ≤ Config.default.tableN ∧ 4 ∣ Config.default.n ∧
    2 ∣ Config.default.n ∧ 12 ∣ Config.default.n ∧ 3599 < Config.default.n :=
  ⟨default_romLaw, by decide, by decide, by decide, by decide, by decide⟩

/-! ## Witnesses: the duty-cycle calculator -/

theorem witness_LinearRatiosFollowParameters : Config.default.refusal = none ∧ (-16384 : Int) ≤ -16384 ∧ (16384 : Int) ≤ 16384 := by
  decide

/-- Both sides of the threshold, and a configuration whose ratios sum to 1.0. -/
theorem witness_LinearClampThreshold : 31443 ≤ 32768 ∧ 31444 ≤ 32768 ∧
    ({ small with minRatioQ16 := 655 } : Config).minRatio + ({ small with minRatioQ16 := 655 } : Config).maxRatio ≤ 65536 := by decide

theorem witness_GammaIsFloorOfThreeHalvesPower : 65536 ≤ 65536 ∧ 40 ≤ 40 := by decide

theorem witness_PlanFollowsPseudocode : Config.default.refusal = none ∧ (-16384 : Int) ≤ -16384 ∧ (16384 : Int) ≤ 16384 ∧
    1023 ≤ Config.default.maxRawN := by decide

theorem witness_PlanDurationBounds : ({ small with halfPeriodUs := 1 } : Config).refusal = none ∧
    ({ small with halfPeriodUs := 1 } : Config).h = 1 := by decide

theorem witness_DurationClampOnlyAtFullScale : Config.default.refusal = none ∧ 65536 ≤ 65536 ∧ 1023 ≤ Config.default.maxRawN := by
  decide

theorem witness_ZeroCrossingSymmetry : Config.default.refusal = none ∧ 0 < Config.default.warmRatio 0 ∧
    Config.default.coolFactor < 65536 := by decide +kernel

theorem witness_PlanIsMonotone : (-16384 : Int) ≤ 16384 ∧ 0 ≤ 1023 := by decide

/-- Input words that are at the Crossfade level at the polls of a tick of 16 cycles and bounce to the other level between them. -/
def bouncing (k : Nat) : List Nat := (List.range k).map fun j => if j % 16 = 0 then 0x3FF else 0x7FF

theorem witness_PhaseAdvanceIsExact_advances : 21599999999 < Config.default.modulus ∧
    [6000, 5994000].sum = Config.default.periodUs ∧
    ∃ s', exec .xfUpd (beforePoll small .crossfade 16 [0x3FF]) = .next s' := ⟨by decide, by decide, goesOn_next (by decide)⟩

/-- A run of 16 steps with a bouncing switch, the update at its first poll, and the step between polls that follows. -/
theorem witness_PhaseAdvanceIsExact_runs : (beforePoll small .crossfade 16 (bouncing 17)).cfg.Block ∧
    (beforePoll small .crossfade 16 (bouncing 17)).OnGrid ∧ (beforePoll small .crossfade 16 (bouncing 17)).phase_acc < small.modulus ∧
    (beforePoll small .crossfade 16 (bouncing 17)).NoResetFor (16 + 1) ∧
    (beforePoll small .crossfade 16 (bouncing 17)).PollsTarget (16 + 1) .crossfade ∧
    (beforePoll small .crossfade 16 (bouncing 17)).nextT = 0 ∧
    small.interval ≤ (beforePoll small .crossfade 16 (bouncing 17)).elapsed.toNat ∧
    (beforePoll small .crossfade 15 (bouncing 17)).elapsed.toNat < small.interval := by
  refine ⟨small_block, ⟨by decide, by decide, by decide⟩, by decide, ?_, ?_, by decide, by decide, by decide⟩
  · unfold State.NoResetFor; decide
  · unfold State.PollsTarget; decide

/-- Ticks as long as the phase cycle (1000 us), and a poll one tick after the last update. -/
theorem witness_PhaseAdvanceIsExact_period :
    ({ small with halfPeriodUs := 500, updateIntervalUs := 1000 } : Config).Block ∧
    (beforePoll { small with halfPeriodUs := 500, updateIntervalUs := 1000 } .crossfade 1000 [0x3FF]).OnGrid ∧
    (beforePoll { small with halfPeriodUs := 500, updateIntervalUs := 1000 } .crossfade 1000 [0x3FF]).elapsed.toNat + 0 =
      ({ small with halfPeriodUs := 500, updateIntervalUs := 1000 } : Config).periodUs :=
  ⟨⟨by decide, by decide⟩, ⟨by decide, by decide, by decide⟩, by decide⟩

/-- From RESET_STATE with I = 0 the first poll updates. -/
theorem witness_PhaseAdvanceIsExact_reset :
    ({ State.resetFor { small with updateIntervalUs := 0 } with inputs := [0x3FF] } : State).SameRegisters
      (State.resetFor { small with updateIntervalUs := 0 }) ∧
    ({ State.resetFor { small with updateIntervalUs := 0 } with inputs := [0x3FF] } : State).NoResetFor (0 + 1) ∧
    ({ State.resetFor { small with updateIntervalUs := 0 } with inputs := [0x3FF] } : State).PollsTarget (0 + 1) .crossfade ∧
    ({ State.resetFor { small with updateIntervalUs := 0 } with inputs := [0x3FF] } : State).nextT = 0 ∧
    ({ small with updateIntervalUs := 0 } : Config).interval = 0 ∧ ({ small with updateIntervalUs := 0 } : Config).Block := by
  refine ⟨rfl, ?_, ?_, by decide, by decide, ⟨by decide, by decide⟩⟩
  · unfold State.NoResetFor; decide
  · unfold State.PollsTarget; decide

/-! ## Witnesses: operations and steps -/

theorem witness_CrossfadeHoldResult : (beforePoll small .crossfade 15 [0x3FF]).cfg.Block := small_block

theorem witness_CrossfadeUpdateResult : (beforePoll small .crossfade 16 [0x3FF]).cfg.Block ∧
    128 = ((beforePoll small .crossfade 16 [0x3FF]).phase_acc + small.n *
      ((beforePoll small .crossfade 16 [0x3FF]).now_us + 1 - (beforePoll small .crossfade 16 [0x3FF]).last_ts).toNat) % small.modulus ∧
    1023 = min (beforePoll small .crossfade 16 [0x3FF]).inDim small.maxRawN := ⟨small_block, by decide, by decide⟩

theorem witness_AllOnUpdateResult : 1023 = min (beforePoll small .allOn 16 [0x7FF]).inDim small.maxRawN := by decide

theorem witness_PollStepRunsDecodedOperation : small.refusal = none ∧ (beforePoll small .allOn 16 [0x7FF]).inRst = false ∧
    (beforePoll small .allOn 16 [0x7FF]).nextT = 0 ∧ decodeTdw (beforePoll small .allOn 16 [0x7FF]).tdw = .aoUpd ∧
    Instr.aoUpd.wellFormed = true := by decide

theorem witness_OtherStepsRunDecodedCycleOperation :
    ((beforePoll small .allOn 16 [0x800]).inRst = true ∧
      decodeCpc (beforePoll small .allOn 16 [0x800]).resetRegisters.cpc = .blank true false) ∧
    (({ midTick 404 with inputs := [0] } : State).inRst = false ∧ ({ midTick 404 with inputs := [0] } : State).nextT ≠ 0 ∧
      decodeCpc ({ midTick 404 with inputs := [0] } : State).count.cpc = .wRem) := by decide +kernel

theorem witness_StepIsCompleteStepFunction : (beforePoll small .crossfade 16 [0x3FF]).cfg.refusal = none := by decide

theorem witness_BlockAlwaysSteps : State.reset.cfg.Block := default_block

theorem witness_IllegalConfigurationIsRefused :
    ({ small with updateIntervalUs := 4294967280 } : Config).MeetsCondition .CFG_UPDATE_INTERVAL ∧
    ¬ ({ small with updateIntervalUs := 4294967279 } : Config).MeetsCondition .CFG_UPDATE_INTERVAL ∧
    ({ small with tableN := 0 } : Config).MeetsCondition .CFG_TABLE_N := by
  refine ⟨Or.inr ?_, ?_, ?_⟩ <;> simp [Config.MeetsCondition, small]

theorem witness_ResetGivesResetState : small.refusal = none ∧
    ∀ j, j < 1 + 1 → (beforePoll small .allOn 16 [0x800, 0xFFF]).rstAt j = true := by decide

theorem witness_ResetStateValues : small.refusal = none := by decide

theorem witness_FirstTickAfterReset :
    ({ State.resetFor small with inputs := List.replicate 16 0x3FF } : State).SameRegisters (State.resetFor small) ∧
    ({ State.resetFor small with inputs := List.replicate 16 0x3FF } : State).NoResetFor (15 + 1) ∧ 15 < small.slot := by
  refine ⟨rfl, ?_, by decide⟩
  unfold State.NoResetFor
  decide

theorem witness_StartUpCases :
    ({ State.resetFor small with inputs := [0x7FF] } : State).SameRegisters (State.resetFor small) ∧
    ({ State.resetFor small with inputs := [0x7FF] } : State).inRst = false ∧
    ({ State.resetFor small with inputs := [0x7FF] } : State).tgt = .allOn ∧
    ({ State.resetFor small with inputs := [0x3FF] } : State).tgt = .crossfade ∧ 0 < small.interval ∧
    ({ small with updateIntervalUs := 0 } : Config).refusal = none ∧ ({ small with updateIntervalUs := 0 } : Config).interval = 0 ∧
    ({ State.resetFor { small with updateIntervalUs := 0 } with inputs := [0x3FF] } : State).tgt = .crossfade :=
  ⟨rfl, by decide, by decide, by decide, by decide, by decide, by decide, by decide⟩

theorem witness_NonPollStepOnlyCounts : ({ midTick 1998 with inputs := [0x3FF] } : State).t < State.reset.cfg.slot ∧
    ({ midTick 1998 with inputs := [0x3FF] } : State).inRst = false ∧
    ({ midTick 1998 with inputs := [0x3FF] } : State).t + 1 ≠ State.reset.cfg.slot := by decide

/-- The elapsed time has reached the interval, so the update is the lower-priority event. -/
theorem witness_TransitionHasPriorityOverUpdate : (beforePoll small .crossfade 16 [0x7FF]).inRst = false ∧
    (beforePoll small .crossfade 16 [0x7FF]).nextT = 0 ∧ (beforePoll small .crossfade 16 [0x7FF]).tgt ≠ .crossfade ∧
    (beforePoll small .crossfade 16 [0x7FF]).upd = true := by decide

theorem witness_OutputsShowTheStateReached : ∃ s', step (beforePoll small .allOn 16 [0x7FF]) = .next s' :=
  goesOn_next (by decide)

theorem witness_RomAndParametersAreNeverWritten : ∃ s', exec .xfUpd (beforePoll small .crossfade 16 [0x3FF]) = .next s' :=
  goesOn_next (by decide)

/-- A transition changes mode, phase, timestamp, switch record and blank; an update changes phase, timestamp, dimmer and plan. -/
theorem witness_RegistersChangeOnlyWhereWritten :
    (beforePoll small .crossfade 16 [0x7FF]).inRst = false ∧
    regs (step { beforePoll small .crossfade 16 [0x7FF] with phase_acc := 3 }) = some ⟨.allOn, true, 0, 32, 512, true, 0, 0⟩ ∧
    regs (step (beforePoll small .crossfade 16 [0x3FF])) = some ⟨.crossfade, false, 128, 32, 1023, false, 3, 2⟩ := by decide

theorem witness_InputsBetweenPollsHaveNoEffect :
    ({ midTick 5 with inputs := [0x000] } : State).SameRegisters { midTick 5 with inputs := [0x7FF] } ∧
    ({ midTick 5 with inputs := [0x000] } : State).inRst = false ∧ ({ midTick 5 with inputs := [0x7FF] } : State).inRst = false ∧
    ({ midTick 5 with inputs := [0x000] } : State).nextT ≠ 0 := ⟨rfl, by decide, by decide, by decide⟩

/-- One pair of states for each of the four steps that read no dimmer sample: a reset, a step between polls, a transition, a hold. -/
theorem witness_DimmerIsReadOnlyByUpdates :
    (beforePoll small .crossfade 15 [0x000]).SameRegisters (beforePoll small .crossfade 15 [0x3FF]) ∧
    (beforePoll small .crossfade 15 [0x000]).inRst = (beforePoll small .crossfade 15 [0x3FF]).inRst ∧
    (beforePoll small .crossfade 15 [0x000]).inSw = (beforePoll small .crossfade 15 [0x3FF]).inSw ∧
    (beforePoll small .crossfade 15 [0x000]).elapsed.toNat < small.interval ∧
    (beforePoll small .crossfade 16 [0x800]).inRst = true ∧ ({ midTick 5 with inputs := [0x000] } : State).nextT ≠ 0 ∧
    (beforePoll small .crossfade 16 [0x400]).tgt ≠ .crossfade :=
  ⟨rfl, by decide, by decide, by decide, by decide, by decide, by decide⟩

/-! ## Witnesses: invariants -/

/-- The cycle t of the small block's tick with plan (3, 2). -/
def litCycle (t : Nat) : State :=
  { beforePoll small .allOn 16 [0x7FF] with
    t := t, plan_w := 3, plan_c := 2, warm_o := decide (t < 3), cool_o := decide (8 ≤ t ∧ t < 10) }

theorem litCycle_inv (t : Nat) (h : t < 16) : (litCycle t).Inv where
  t_in_tick := h
  phase_below_modulus := by show 0 < small.modulus; decide
  plan_w_below_half := by show 3 ≤ small.h - 1; decide
  plan_c_below_half := by show 2 ≤ small.h - 1; decide
  dimmer_saturated := by show 512 ≤ 1023; decide
  switch_agrees := by show small.target true = .allOn; decide
  blank_plan_zero := by intro hb; cases hb
  allOn_phase_zero := fun _ => rfl
  outputs_shown := by
    show (litCycle t).OutputsShown
    unfold State.OutputsShown
    revert t
    decide

theorem witness_InvariantHoldsAtReset : small.refusal = none ∧ Config.default.refusal = none := by decide

theorem witness_InvariantKeptByEveryStep : (litCycle 15).Inv ∧ ∃ s', step (litCycle 15) = .next s' :=
  ⟨litCycle_inv 15 (by decide), goesOn_next (by decide)⟩

theorem witness_RegistersFitTheirWidths : (litCycle 15).Inv ∧ ∃ s', step (litCycle 15) = .next s' :=
  ⟨litCycle_inv 15 (by decide), goesOn_next (by decide)⟩

theorem witness_ElapsedTimeStaysOnTickGrid :
    (beforePoll small .allOn 16 [0x7FF]).OnGrid ∧ (∃ s', step (beforePoll small .allOn 16 [0x7FF]) = .next s') ∧
    small.refusal = none ∧ (beforePoll small .allOn 16 [0x7FF]).nextT = 0 :=
  ⟨⟨by decide, by decide, by decide⟩, goesOn_next (by decide), by decide, by decide⟩

/-- A rising edge of each channel, and the last cycle of each block. -/
theorem witness_OutputsNeverOverlapAndKeepDeadTime :
    ((litCycle 15).Inv ∧ (litCycle 15).warm_o = false ∧ shown (step (litCycle 15)) = some (32, 0, true, false)) ∧
    ((litCycle 7).Inv ∧ (litCycle 7).cool_o = false ∧ shown (step (litCycle 7)) = some (32, 8, false, true)) ∧
    (litCycle 7).t = small.h - 1 ∧ (litCycle 15).t = 2 * small.h - 1 :=
  ⟨⟨litCycle_inv 15 (by decide), by decide, by decide⟩, ⟨litCycle_inv 7 (by decide), by decide, by decide⟩, by decide, by decide⟩

/-! ## Witnesses: runs -/

theorem witness_RunsCountCycles : small.Block ∧ (beforePoll small .allOn 16 (List.replicate 20 0x7FF)).t < small.slot ∧
    (beforePoll small .allOn 16 (List.replicate 20 0x7FF)).NoResetFor 20 := by
  refine ⟨small_block, by decide, ?_⟩
  unfold State.NoResetFor
  decide

theorem witness_NoCancellationWithinTick : ({ litCycle 0 with inputs := List.replicate 15 0 } : State).t + 15 < small.slot ∧
    ({ litCycle 0 with inputs := List.replicate 15 0 } : State).NoResetFor 15 ∧
    ({ litCycle 0 with inputs := List.replicate 15 0 } : State).OutputsShown := by
  refine ⟨by decide, ?_, rfl⟩
  unfold State.NoResetFor
  decide

/-- A lit tick and a blank one. -/
theorem witness_TickWaveformIsThePlan :
    (({ litCycle 0 with inputs := List.replicate 15 0 } : State).OutputsShown ∧
      ({ litCycle 0 with inputs := List.replicate 15 0 } : State).NoResetFor (small.slot - 1) ∧ (litCycle 0).blank = false ∧
      (litCycle 0).plan_w ≤ small.h - 1 ∧ (litCycle 0).plan_c ≤ small.h - 1) ∧
    ({ State.resetFor small with t := 0, inputs := List.replicate 15 0 } : State).OutputsShown ∧
    ({ State.resetFor small with t := 0, inputs := List.replicate 15 0 } : State).NoResetFor (small.slot - 1) ∧
    (State.resetFor small).blank = true := by
  refine ⟨⟨rfl, ?_, rfl, by decide, by decide⟩, rfl, ?_, rfl⟩ <;> unfold State.NoResetFor <;> decide

theorem witness_TransitionBlanksOneTick : (beforePoll small .crossfade 16 (List.replicate 16 0x7FF)).inRst = false ∧
    (beforePoll small .crossfade 16 (List.replicate 16 0x7FF)).nextT = 0 ∧
    (beforePoll small .crossfade 16 (List.replicate 16 0x7FF)).tgt ≠ .crossfade ∧
    (beforePoll small .crossfade 16 (List.replicate 16 0x7FF)).NoResetFor small.slot := by
  refine ⟨by decide, by decide, by decide, ?_⟩
  unfold State.NoResetFor
  decide

/-- The first cycle of a tick whose poll recorded the timestamp, with update interval 20 over ticks of 16 cycles: U = 2, so the polls are
j = 1 (no update) and j = 2 (update). The switch bounces between the polls, which are steps 15 and 31. -/
def cadenceStart : State :=
  { State.resetFor { small with updateIntervalUs := 20 } with t := 0, now_us := 0, inputs := (bouncing 33).tail }

theorem witness_UpdateCadence : updateTicks cadenceStart.cfg = 2 ∧ cadenceStart.cfg.Block ∧ cadenceStart.t = 0 ∧
    cadenceStart.last_ts = cadenceStart.now_us ∧ cadenceStart.NoResetFor (2 * cadenceStart.cfg.slot) ∧
    cadenceStart.PollsTarget (2 * cadenceStart.cfg.slot) cadenceStart.mode ∧
    cadenceStart.cfg.target (cadenceStart.swAt 14) ≠ cadenceStart.mode := by
  refine ⟨by decide, ⟨by decide, by decide⟩, rfl, by decide, ?_, ?_, by decide⟩
  · unfold State.NoResetFor; decide
  · unfold State.PollsTarget; decide

theorem witness_PlacedWordIsFormed : Config.default.refusal = none ∧ 0 < Config.default.interval ∧ 2 ≤ Config.default.h ∧
    Instr.aoUpd.format = .tdw ∧ Instr.cOn.format = .cpc := by decide

theorem witness_PowerUpFitsAndResets : small.refusal = none ∧ small.rstOf 0x800 = true := by decide

end Sys2Proof.Tests
end

-- ==== Proofs of the family 10_state.md ====
section
/-! PROOFS of 10_state.md: the invariants of R32, the widths of R34, and where each register is written (R18). The registers whose
value a rule states (all but the counters and `t`) change only through the reset and the tick operation of a poll, so each claim is
proved of RESET_STATE and of `TickResult`, and carried over the counting and the outputs of a step by one lemma. -/

namespace Sys2Proof

/-! ## Numerals: how many bits a value needs (00_scope.md R8) -/

/-- A value needs no more bits than any value above it. -/
theorem lt_two_pow_bitLength {v n : Nat} (h : v ≤ n) : v < 2 ^ bitLength n := by
  refine lt_of_le_of_lt h ?_
  unfold bitLength
  split
  next h0 => simp [h0]
  next => exact Nat.lt_log2_self

/-- A width of R8 that is at least 1 holds every value up to the one it is elaborated from. -/
theorem lt_two_pow_max_one_bitLength {v n : Nat} (h : v ≤ n) : v < 2 ^ max 1 (bitLength n) :=
  lt_of_lt_of_le (lt_two_pow_bitLength h) (Nat.pow_le_pow_right (by decide) (le_max_right _ _))

/-! ## The reset position (70_reset_and_hazards.md R152) -/

theorem Config.resetT_lt_slot {c : Config} (h : c.refusal = none) : c.resetT < c.slot := by
  have := Config.slot_ge_two h
  unfold Config.resetT
  omega

namespace Machine

variable {s s' s1 : State}

/-! ## The invariants without the position and the ports -/

/-- R32 (b) to (f): the part of `State.Inv` that speaks of the registers a reset or a tick operation writes. -/
structure State.RegisterInv (s : State) : Prop where
  phase_below_modulus : s.phase_acc < s.cfg.modulus
  plan_w_below_half : s.plan_w ≤ s.cfg.h - 1
  plan_c_below_half : s.plan_c ≤ s.cfg.h - 1
  dimmer_saturated : s.dim_reg ≤ s.cfg.maxRawN
  switch_agrees : s.cfg.target s.prev_sw = s.mode
  blank_plan_zero : s.blank = true → s.plan_w = 0 ∧ s.plan_c = 0
  allOn_phase_zero : s.mode = .allOn → s.phase_acc = 0

theorem State.inv_iff : s.Inv ↔ s.t < s.cfg.slot ∧ s.RegisterInv ∧ s.OutputsShown where
  mp := fun ⟨ht, hph, hw, hc, hd, hsw, hb, hao, ho⟩ => ⟨ht, ⟨hph, hw, hc, hd, hsw, hb, hao⟩, ho⟩
  mpr := fun ⟨ht, ⟨hph, hw, hc, hd, hsw, hb, hao⟩, ho⟩ => ⟨ht, hph, hw, hc, hd, hsw, hb, hao, ho⟩

theorem State.Inv.registerInv (hi : s.Inv) : s.RegisterInv := (State.inv_iff.mp hi).2.1

/-- Counting and driving write none of these registers. -/
theorem State.RegisterInv.count (hi : s.RegisterInv) : s.count.RegisterInv := { hi with }

theorem State.RegisterInv.drive (hi : s.RegisterInv) (w c : Bool) : (s.drive w c).RegisterInv := { hi with }

/-! ## The reset state -/

theorem resetRegisters_registerInv (h : s.cfg.refusal = none) : s.resetRegisters.RegisterInv where
  phase_below_modulus := Config.modulus_pos h
  plan_w_below_half := Nat.zero_le _
  plan_c_below_half := Nat.zero_le _
  dimmer_saturated := Nat.zero_le _
  switch_agrees := Config.target_resetPrevSw h
  blank_plan_zero := fun _ => ⟨rfl, rfl⟩
  allOn_phase_zero := fun _ => rfl

/-- Settles O49: `RESET_STATE` is a tick's last cycle, its registers are those of a reset step, and a blank tick shows no light. -/
theorem invariantHoldsAtReset : Obligations.InvariantHoldsAtReset := by
  intro c h
  have hreg : (State.resetFor c).resetRegisters.RegisterInv := resetRegisters_registerInv h
  exact State.inv_iff.mpr ⟨Config.resetT_lt_slot h, { hreg with }, rfl⟩

/-! ## What a tick operation writes (10_state.md R18) -/

/-- Every poll ends in the switch's target mode: a transition enters it, any other poll finds it (R22). -/
theorem TickResult.mode_eq (ht : TickResult s s1) : s1.mode = s.tgt := by
  cases ht with
  | transition => rfl
  | updateCrossfade hsame | updateAllOn hsame | holdCrossfade hsame | holdAllOn hsame => exact hsame.symm

/-- Every poll records the switch level (R23). -/
theorem TickResult.prev_sw_eq (ht : TickResult s s1) : s1.prev_sw = s.inSw := by cases ht <;> rfl

/-- The phase after a poll: 0, advanced by a Crossfade update, or kept (R24). -/
theorem TickResult.phase_acc_cases (ht : TickResult s s1) :
    (s.tgt ≠ s.mode ∧ s1.phase_acc = 0) ∨
    (s.mode = .crossfade ∧ s.cfg.interval ≤ s.elapsed.toNat ∧ s1.mode = .crossfade ∧ s1.phase_acc = s.advancedPhase) ∨
    (s1.mode = s.mode ∧ s1.phase_acc = s.phase_acc) := by
  cases ht with
  | transition hchg => exact .inl ⟨hchg, rfl⟩
  | updateCrossfade _ hupd hm => exact .inr (.inl ⟨hm, hupd, hm, rfl⟩)
  | updateAllOn | holdCrossfade | holdAllOn => exact .inr (.inr ⟨rfl, rfl⟩)

/-- The timestamp is kept by a hold only (R20). -/
theorem TickResult.last_ts_cases (ht : TickResult s s1) :
    (s.tgt ≠ s.mode ∨ s.cfg.interval ≤ s.elapsed.toNat) ∨ s1.last_ts = s.last_ts := by
  cases ht with
  | transition hchg => exact .inl (.inl hchg)
  | updateCrossfade _ hupd | updateAllOn _ hupd => exact .inl (.inr hupd)
  | holdCrossfade | holdAllOn => exact .inr rfl

/-- The dimmer register after a poll: sampled by an update, or kept (R25). -/
theorem TickResult.dim_reg_cases (ht : TickResult s s1) :
    (s.tgt = s.mode ∧ s.cfg.interval ≤ s.elapsed.toNat ∧ s1.dim_reg = s.dimSample) ∨ s1.dim_reg = s.dim_reg := by
  cases ht with
  | updateCrossfade hsame hupd | updateAllOn hsame hupd => exact .inl ⟨hsame, hupd, rfl⟩
  | transition | holdCrossfade | holdAllOn => exact .inr rfl

/-- The tick after a poll is blank with the zero plan, or lit with a plan of the calculator (R26, R27). -/
theorem TickResult.plan_cases (ht : TickResult s s1) :
    (s1.blank = true ∧ s1.plan_w = 0 ∧ s1.plan_c = 0) ∨
    (s1.blank = false ∧ ∃ sq d, s1.plan_w = (s.cfg.plan sq d).w ∧ s1.plan_c = (s.cfg.plan sq d).c) := by
  cases ht with
  | transition => exact .inl ⟨rfl, rfl, rfl⟩
  | updateCrossfade | updateAllOn | holdCrossfade | holdAllOn => exact .inr ⟨rfl, _, _, rfl, rfl⟩

/-! ## The invariants are inductive -/

/-- A tick operation of a legal configuration keeps R32 (b) to (f), register by register. -/
theorem TickResult.keeps_registerInv (ht : TickResult s s1) (h : s.cfg.refusal = none) (hi : s.RegisterInv) :
    s1.RegisterInv := by
  obtain ⟨hcfg, -⟩ := ht.bookkeeping
  constructor
  case phase_below_modulus =>
    rw [hcfg]
    obtain ⟨-, h0⟩ | ⟨-, -, -, hadv⟩ | ⟨-, hkept⟩ := ht.phase_acc_cases
    · rw [h0]; exact Config.modulus_pos h
    · rw [hadv]; exact Nat.mod_lt _ (Config.modulus_pos h)
    · rw [hkept]; exact hi.phase_below_modulus
  case plan_w_below_half =>
    rw [hcfg]
    obtain ⟨-, hw, -⟩ | ⟨-, sq, d, hw, -⟩ := ht.plan_cases
    · rw [hw]; exact Nat.zero_le _
    · rw [hw]; exact (s.cfg.plan_le sq d).1
  case plan_c_below_half =>
    rw [hcfg]
    obtain ⟨-, -, hc⟩ | ⟨-, sq, d, -, hc⟩ := ht.plan_cases
    · rw [hc]; exact Nat.zero_le _
    · rw [hc]; exact (s.cfg.plan_le sq d).2
  case dimmer_saturated =>
    rw [hcfg]
    obtain ⟨-, -, hsample⟩ | hkept := ht.dim_reg_cases
    · rw [hsample]; exact Nat.min_le_right _ _
    · rw [hkept]; exact hi.dimmer_saturated
  case switch_agrees => rw [hcfg, ht.prev_sw_eq, ht.mode_eq]; rfl
  case blank_plan_zero =>
    intro hb
    obtain ⟨-, hplan⟩ | ⟨hlit, -⟩ := ht.plan_cases
    · exact hplan
    · rw [hlit] at hb; cases hb
  case allOn_phase_zero =>
    intro hm
    obtain ⟨-, h0⟩ | ⟨-, -, hxf, -⟩ | ⟨hmode, hkept⟩ := ht.phase_acc_cases
    · exact h0
    · rw [hxf] at hm; cases hm
    · rw [hkept]; exact hi.allOn_phase_zero (hmode ▸ hm)

theorem EdgeResult.keeps_registerInv (he : EdgeResult s s1) (h : s.cfg.refusal = none) (hi : s.RegisterInv) :
    s1.RegisterInv := by
  cases he with
  | reset => exact resetRegisters_registerInv h
  | count => exact hi.count
  | poll _ _ s2 ht => exact (ht.keeps_registerInv h hi).count

/-- R32 (a) needs no premise on the state stepped from: every edge sets `t` to a position of the tick. -/
theorem EdgeResult.t_lt_slot (he : EdgeResult s s1) (h : s.cfg.refusal = none) : s1.t < s1.cfg.slot := by
  have hslot : 0 < s.cfg.slot := lt_of_lt_of_le (by decide) (Config.slot_ge_two h)
  cases he with
  | reset => exact Config.resetT_lt_slot h
  | count => exact Nat.mod_lt _ hslot
  | poll _ _ s2 ht =>
    obtain ⟨hcfg, -⟩ := ht.bookkeeping
    exact Nat.mod_lt _ (hcfg ▸ hslot)

/-- Settles O50: the position and the registers go by the edge, and the outputs driven are those of the state reached. -/
theorem invariantKeptByEveryStep : Obligations.InvariantKeptByEveryStep := by
  intro s s' hi hstep
  obtain ⟨hcfg, s1, he, rfl⟩ := step_next hstep
  exact State.inv_iff.mpr ⟨he.t_lt_slot hcfg, (he.keeps_registerInv hcfg hi.registerInv).drive _ _, rfl⟩

/-! ## Widths -/

/-- R34: in a legal configuration the bounds of R32 are bounds by the registers' widths. -/
theorem State.Inv.fitsWidths (h : s.cfg.refusal = none) (hi : s.Inv) : s.FitsWidths where
  t_fits := lt_two_pow_max_one_bitLength (Nat.le_sub_one_of_lt hi.t_in_tick)
  phase_acc_fits := lt_two_pow_bitLength (Nat.le_sub_one_of_lt hi.phase_below_modulus)
  dim_reg_fits := lt_of_le_of_lt hi.dimmer_saturated (Config.maxRawN_lt h)
  plan_w_fits := lt_two_pow_max_one_bitLength hi.plan_w_below_half
  plan_c_fits := lt_two_pow_max_one_bitLength hi.plan_c_below_half

/-- Settles O51: the step keeps the configuration and, by O50, the invariants. -/
theorem registersFitTheirWidths : Obligations.RegistersFitTheirWidths := by
  intro s s' hi hstep
  obtain ⟨hcfg, -⟩ := step_next hstep
  have hcfg' : s'.cfg.refusal = none := (step_inputs hstep).1 ▸ hcfg
  exact ⟨hi.fitsWidths hcfg, (invariantKeptByEveryStep s s' hi hstep).fitsWidths hcfg'⟩

/-! ## Where registers are written -/

/-- Outside reset, a register that counting and driving leave alone changes only at a poll, to the value its tick operation gives. -/
theorem tickResult_of_step_changes {α : Type} (reg : State → α) (hreg : ∀ (u : State) (w c : Bool), reg (u.count.drive w c) = reg u)
    (h : step s = .next s') (hr : s.inRst = false) (hne : reg s' ≠ reg s) :
    s.nextT = 0 ∧ ∃ s1, TickResult s s1 ∧ reg s' = reg s1 := by
  obtain ⟨-, s1, he, rfl⟩ := step_next h
  cases he with
  | reset hrst => rw [hr] at hrst; cases hrst
  | count => exact absurd (hreg _ _ _) hne
  | poll _ hp s2 ht => exact ⟨hp, s2, ht, hreg _ _ _⟩

/-- Settles O46, register by register: a change is a poll's, and the tick operation's cases say which poll writes the register. -/
theorem registersChangeOnlyWhereWritten : Obligations.RegistersChangeOnlyWhereWritten := by
  intro s s' hstep hr
  refine ⟨fun hne => ?mode, fun hne => ?phase, fun hne => ?timestamp, fun hne => ?dimmer, fun hne => ?atPolls, ?counters⟩
  case mode =>
    obtain ⟨hp, s1, ht, heq⟩ := tickResult_of_step_changes State.mode (fun _ _ _ => rfl) hstep hr hne
    have hmode : s'.mode = s.tgt := heq.trans ht.mode_eq
    exact ⟨hp, hmode ▸ hne, hmode⟩
  case phase =>
    obtain ⟨hp, s1, ht, heq⟩ := tickResult_of_step_changes State.phase_acc (fun _ _ _ => rfl) hstep hr hne
    obtain ⟨hchg, -⟩ | ⟨hm, hupd, -⟩ | ⟨-, hkept⟩ := ht.phase_acc_cases
    · exact ⟨hp, .inl hchg⟩
    · exact ⟨hp, .inr ⟨hm, hupd⟩⟩
    · exact absurd (heq.trans hkept) hne
  case timestamp =>
    obtain ⟨hp, s1, ht, heq⟩ := tickResult_of_step_changes State.last_ts (fun _ _ _ => rfl) hstep hr hne
    exact ⟨hp, ht.last_ts_cases.resolve_right fun hkept => hne (heq.trans hkept)⟩
  case dimmer =>
    obtain ⟨hp, s1, ht, heq⟩ := tickResult_of_step_changes State.dim_reg (fun _ _ _ => rfl) hstep hr hne
    obtain ⟨hsame, hupd, -⟩ := ht.dim_reg_cases.resolve_right fun hkept => hne (heq.trans hkept)
    exact ⟨hp, hsame, hupd⟩
  case atPolls =>
    obtain hne | hne | hne | hne := hne
    · exact (tickResult_of_step_changes State.prev_sw (fun _ _ _ => rfl) hstep hr hne).1
    · exact (tickResult_of_step_changes State.blank (fun _ _ _ => rfl) hstep hr hne).1
    · exact (tickResult_of_step_changes State.plan_w (fun _ _ _ => rfl) hstep hr hne).1
    · exact (tickResult_of_step_changes State.plan_c (fun _ _ _ => rfl) hstep hr hne).1
  case counters => exact (step_counts hstep hr).symm

end Machine

end Sys2Proof
end

-- ==== Proofs of the family 20_memory.md ====
section
/-! PROOFS of 20_memory.md: where the ROM read stops. What the read answers is said once of `MemRead` (R42) and once of a tick
operation that looks its blend value up; XF.HOLD and XF.UPD differ only in the phase they look up. -/

namespace Sys2Proof

open Machine

/-! ## The ROM read's stops (93_implementation_defined.md I2, log 9) -/

theorem romWordInRange_eq_false_iff {w : RomWord} : romWordInRange w = false ↔ w.toInt < -16384 ∨ 16384 < w.toInt := by
  simp only [romWordInRange, Bool.and_eq_false_iff, decide_eq_false_iff_not, not_le]

theorem Config.memRead_of_no_word {c : Config} {i : Nat} (h : c.rom[i]? = none) : c.memRead i = .error .romIndex := by
  simp only [Config.memRead, h]

theorem Config.memRead_of_word_out_of_range {c : Config} {i : Nat} {w : RomWord} (h : c.rom[i]? = some w)
    (hw : w.toInt < -16384 ∨ 16384 < w.toInt) : c.memRead i = .error .romWord := by
  simp only [Config.memRead, h, romWordInRange_eq_false_iff.mpr hw, Bool.false_eq_true, if_false]

/-- In a block a word is stored at the index of every phase (R40, 40_waveform_table.md R79). -/
theorem Config.rom_idx_ne_none {c : Config} (hb : c.Block) (p : Nat) : c.rom[c.idx p]? ≠ none := by
  obtain ⟨w, hw, -, -⟩ := Config.lookup_ok hb p
  simp [hw]

namespace Machine

/-! ## The tick operations that read the ROM (R43) -/

/-- XF.HOLD reads at the held phase (41_phase_mode.md R99). -/
theorem exec_xfHold_of_read_fault {s : State} {e : Fault} (h : s.cfg.memRead (s.cfg.idx s.phase_acc) = .error e) :
    exec .xfHold s = .fault e := by
  simp only [exec, execXfHold, Config.lookup, h, withBlend]

/-- XF.UPD reads at the advanced phase (41_phase_mode.md R100). -/
theorem exec_xfUpd_of_read_fault {s : State} {e : Fault} (h : s.cfg.memRead (s.cfg.idx s.advancedPhase) = .error e) :
    exec .xfUpd s = .fault e := by
  simp only [exec, execXfUpd, Config.lookup, h, withBlend]

/-- Settles O14: each operation passes on the fault of its one ROM read, and a block's lookup finds a word at every phase. -/
theorem romReadStopsOutsideTheTable : Obligations.RomReadStopsOutsideTheTable := by
  intro s
  refine ⟨fun hnone => ?holdIndex, fun hnone => ?updIndex, fun w hw => ⟨fun hsome => ?holdWord, fun hsome => ?updWord⟩,
    fun hb => ?block⟩
  case holdIndex => exact exec_xfHold_of_read_fault (Config.memRead_of_no_word hnone)
  case updIndex => exact exec_xfUpd_of_read_fault (Config.memRead_of_no_word hnone)
  case holdWord => exact exec_xfHold_of_read_fault (Config.memRead_of_word_out_of_range hsome hw)
  case updWord => exact exec_xfUpd_of_read_fault (Config.memRead_of_word_out_of_range hsome hw)
  case block => exact ⟨Config.rom_idx_ne_none hb s.phase_acc, Config.rom_idx_ne_none hb s.advancedPhase⟩

end Machine

end Sys2Proof
end

-- ==== Proofs of the family 30_encoding.md ====
section
/-! PROOFS of 30_encoding.md: the input word (R52), the two formats and the opcode table (R58, R62, R75), the bits of the two words
a step forms (R54 to R57, R60), the operands (R63 to R65), stimulus programs (R70 to R72), the priority of a transition (R59), and
the model's own placing of a word (log 7). -/

namespace Sys2Proof

open Machine

/-! ## The input word (R52) -/

/-- The switch and reset bits stand above the dimmer field, so each field is read off by itself. -/
theorem Config.packInput_eq (c : Config) (rst sw : Bool) (dim : Nat) :
    c.packInput rst sw dim = 2 ^ c.dimWidth * (2 * rst.toNat + sw.toNat) + dim % 2 ^ c.dimWidth := by
  unfold Config.packInput
  ring

theorem Config.packInput_lt (c : Config) (rst sw : Bool) (dim : Nat) :
    c.packInput rst sw dim < 2 ^ (c.dimWidth + 2) := by
  have hdim : dim % 2 ^ c.dimWidth < 2 ^ c.dimWidth := Nat.mod_lt _ (Nat.two_pow_pos _)
  have hrst := rst.toNat_le
  have hsw := sw.toNat_le
  calc c.packInput rst sw dim
      < 2 ^ c.dimWidth * (2 * rst.toNat + sw.toNat + 1) := by rw [Config.packInput_eq]; linarith
    _ ≤ 2 ^ c.dimWidth * 4 := Nat.mul_le_mul_left _ (by omega)
    _ = 2 ^ (c.dimWidth + 2) := by ring

/-- A bit of the packed word from DIM_W up is a bit of the pair (rst, sw). -/
theorem Config.packInput_testBit_add (c : Config) (rst sw : Bool) (dim k : Nat) :
    (c.packInput rst sw dim).testBit (c.dimWidth + k) = (2 * rst.toNat + sw.toNat).testBit k := by
  have hdim : dim % 2 ^ c.dimWidth < 2 ^ c.dimWidth := Nat.mod_lt _ (Nat.two_pow_pos _)
  rw [Config.packInput_eq, Nat.testBit_two_pow_mul_add _ hdim, if_neg (by omega), Nat.add_sub_cancel_left]

@[simp] theorem Config.rstOf_packInput (c : Config) (rst sw : Bool) (dim : Nat) : c.rstOf (c.packInput rst sw dim) = rst := by
  unfold Config.rstOf
  rw [Config.packInput_testBit_add]
  cases rst <;> cases sw <;> rfl

@[simp] theorem Config.swOf_packInput (c : Config) (rst sw : Bool) (dim : Nat) : c.swOf (c.packInput rst sw dim) = sw := by
  refine (c.packInput_testBit_add rst sw dim 0).trans ?_
  cases rst <;> cases sw <;> rfl

@[simp] theorem Config.dimOf_packInput (c : Config) (rst sw : Bool) (dim : Nat) :
    c.dimOf (c.packInput rst sw dim) = dim % 2 ^ c.dimWidth := by
  unfold Config.dimOf
  rw [Config.packInput_eq, Nat.mul_add_mod, Nat.mod_mod]

theorem Config.dimOf_lt (c : Config) (w : Nat) : c.dimOf w < 2 ^ c.dimWidth := Nat.mod_lt _ (Nat.two_pow_pos _)

/-- Settles O5: the field readers are the bits and the remainder the statement names. -/
theorem inputWordFieldsReadBack : Obligations.InputWordFieldsReadBack := by
  intro c rst sw dim hdim
  have hrst := c.rstOf_packInput rst sw dim
  have hsw := c.swOf_packInput rst sw dim
  have hd : c.dimOf (c.packInput rst sw dim) = dim := (c.dimOf_packInput rst sw dim).trans (Nat.mod_eq_of_lt hdim)
  exact ⟨c.packInput_lt rst sw dim, hrst, hsw, hd, hrst, hsw, hd⟩

/-! ## Words and operations (R58, R62) -/

/-- A word is given by its three bits. -/
theorem word3_eq_of_bits {w : Word3} {b2 b1 b0 : Bool} (h2 : w.getLsbD 2 = b2) (h1 : w.getLsbD 1 = b1)
    (h0 : w.getLsbD 0 = b0) : word3 b2 b1 b0 = w := by
  subst h2 h1 h0
  revert w
  decide

/-- An operation's word decodes to it in its own format, the laws of `Laws.WordRoundTrip` together. -/
theorem decodeWord_encode (i : Instr) : decodeWord i.format (encode i) = i := by
  cases i with
  | trXf upd => exact Laws.WordRoundTrip.trXf upd
  | trAo upd => exact Laws.WordRoundTrip.trAo upd
  | xfHold => exact Laws.WordRoundTrip.xfHold
  | xfUpd => exact Laws.WordRoundTrip.xfUpd
  | aoHold => exact Laws.WordRoundTrip.aoHold
  | aoUpd => exact Laws.WordRoundTrip.aoUpd
  | blank half act => exact Laws.WordRoundTrip.blank half act
  | wOn => exact Laws.WordRoundTrip.wOn
  | wRem => exact Laws.WordRoundTrip.wRem
  | cOn => exact Laws.WordRoundTrip.cOn
  | cRem => exact Laws.WordRoundTrip.cRem

/-- The tables of R58 and R62 leave no word out: in each format every three bits are some operation's word. -/
theorem exists_encode_eq_word3 (f : Format) (b2 b1 b0 : Bool) : ∃ i : Instr, i.format = f ∧ encode i = word3 b2 b1 b0 :=
  match f, b2, b1, b0 with
  | .tdw, true, upd, false => ⟨.trXf upd, rfl, rfl⟩
  | .tdw, true, upd, true => ⟨.trAo upd, rfl, rfl⟩
  | .tdw, false, false, false => ⟨.xfHold, rfl, rfl⟩
  | .tdw, false, true, false => ⟨.xfUpd, rfl, rfl⟩
  | .tdw, false, false, true => ⟨.aoHold, rfl, rfl⟩
  | .tdw, false, true, true => ⟨.aoUpd, rfl, rfl⟩
  | .cpc, true, half, act => ⟨.blank half act, rfl, rfl⟩
  | .cpc, false, false, true => ⟨.wOn, rfl, rfl⟩
  | .cpc, false, false, false => ⟨.wRem, rfl, rfl⟩
  | .cpc, false, true, true => ⟨.cOn, rfl, rfl⟩
  | .cpc, false, true, false => ⟨.cRem, rfl, rfl⟩

theorem exists_encode_eq (f : Format) (w : Word3) : ∃ i : Instr, i.format = f ∧ encode i = w := by
  obtain ⟨i, hf, hw⟩ := exists_encode_eq_word3 f (w.getLsbD 2) (w.getLsbD 1) (w.getLsbD 0)
  exact ⟨i, hf, hw.trans (word3_eq_of_bits rfl rfl rfl)⟩

/-- Settles O2: the word is some operation's of the format, and decodes to that operation. -/
theorem encodeAfterDecodeGivesWord : Obligations.EncodeAfterDecodeGivesWord := by
  intro f w
  obtain ⟨i, rfl, rfl⟩ := exists_encode_eq f w
  rw [decodeWord_encode]
  exact ⟨rfl, rfl⟩

theorem decodeWord_eq_of_encode {f : Format} {w : Word3} {i : Instr} (hf : i.format = f) (hw : encode i = w) :
    decodeWord f w = i := by
  subst hf hw
  exact decodeWord_encode i

/-- Settles O4: each written-out word is the encoding of its operation. -/
theorem sampleWordsDecode : Obligations.SampleWordsDecode :=
  ⟨decodeWord_encode (.trXf false), decodeWord_encode (.trAo true), decodeWord_encode .xfUpd,
    decodeWord_encode (.blank true false), decodeWord_encode .wOn, decodeWord_encode .cRem⟩

/-! ## The container byte (log 6) -/

/-- The bit that tells a CPC from a TDW has weight 8. -/
theorem encodeByte_eq (i : Instr) :
    encodeByte i = BitVec.ofNat 8 (8 * (decide (i.format = .cpc)).toNat + (encode i).toNat) := by
  cases hf : i.format <;> simp [encodeByte, hf]

/-- The three fields of a container byte with nothing above its format bit. -/
theorem containerByte_fields : ∀ (cpc : Bool) (w : Word3),
    (BitVec.ofNat 8 (8 * cpc.toNat + w.toNat)).extractLsb' 4 4 = 0#4 ∧
      (BitVec.ofNat 8 (8 * cpc.toNat + w.toNat)).getLsbD 3 = cpc ∧
      (BitVec.ofNat 8 (8 * cpc.toNat + w.toNat)).extractLsb' 0 3 = w := by decide

theorem decodeByte_encodeByte (i : Instr) : decodeByte (encodeByte i) = .ok i := by
  obtain ⟨hhigh, hformat, hword⟩ := containerByte_fields (decide (i.format = .cpc)) (encode i)
  have hf : (if decide (i.format = .cpc) then Format.cpc else .tdw) = i.format := by cases i.format <;> rfl
  rw [encodeByte_eq, decodeByte, if_pos hhigh, hformat, hword, hf, decodeWord_encode]

/-- Settles O1: `decode` reads the first byte and leaves the others. -/
theorem decodeAfterEncodeGivesOperation : Obligations.DecodeAfterEncodeGivesOperation := by
  intro i rest _
  simp only [decode, decodeByte_encodeByte]

/-! ## The opcode table (R75) -/

/-- The table has one row per operation: its word selects that row and no other of its format. -/
theorem opcodeRows_selecting_encode (i : Instr) :
    (opcodeRows.filter (fun r => r.selects i.format (encode i))).map OpcodeRow.mnemonic = [i.mnemonic] := by
  cases i with
  | trXf upd | trAo upd => cases upd <;> rfl
  | blank half act => cases half <;> cases act <;> rfl
  | xfHold | xfUpd | aoHold | aoUpd | wOn | wRem | cOn | cRem => rfl

/-- Settles O3: the word is some operation's of the format, and decodes to that operation. -/
theorem exactlyOneTableRowSelectsEachWord : Obligations.ExactlyOneTableRowSelectsEachWord := by
  intro f w
  obtain ⟨i, rfl, rfl⟩ := exists_encode_eq f w
  rw [decodeWord_encode]
  exact opcodeRows_selecting_encode i

namespace Machine

/-! ## Operands (R63, R64, R65) -/

theorem Mode.toBit_eq_true_iff {m : Mode} : m.toBit = true ↔ m = .allOn := by cases m <;> decide

@[simp] theorem Mode.toBit_ofBit (b : Bool) : (Mode.ofBit b).toBit = b := by cases b <;> rfl

theorem Mode.ofBit_eq_ofBit_iff {a b : Bool} : Mode.ofBit a = Mode.ofBit b ↔ a = b where
  mp := fun h => by rw [← Mode.toBit_ofBit a, h, Mode.toBit_ofBit]
  mpr := fun h => h ▸ rfl

theorem State.inWordAt_of_listed {s : State} {j w : Nat} (h : s.inputs[j]? = some w) : s.inWordAt j = w := by
  simp only [State.inWordAt, h]

/-- A dimmer sample is never above full scale. -/
theorem State.dimSample_eq_inDim {s : State} (h : s.cfg.maxRawN = 2 ^ s.cfg.dimWidth - 1) : s.dimSample = s.inDim :=
  Nat.min_eq_left (h ▸ Nat.le_sub_one_of_lt (s.cfg.dimOf_lt _))

/-- Settles O10: the target's two branches, the sample's bound, and the word listed for a step. -/
theorem switchAndDimmerOperands : Obligations.SwitchAndDimmerOperands := by
  intro s
  refine ⟨fun hlevel => if_pos hlevel, fun hlevel => if_neg hlevel, rfl, State.dimSample_eq_inDim, fun w ws hin => ?next,
    fun j w hin => ?later⟩
  case next =>
    have hw : s.inWordAt 0 = w := State.inWordAt_of_listed (by rw [hin]; rfl)
    exact ⟨congrArg s.cfg.rstOf hw, congrArg s.cfg.swOf hw, congrArg s.cfg.dimOf hw⟩
  case later =>
    have hw : s.inWordAt j = w := State.inWordAt_of_listed hin
    exact ⟨congrArg s.cfg.rstOf hw, congrArg s.cfg.swOf hw⟩

/-- Settles O11: 32-bit addition and subtraction as remainders in the integers. -/
theorem elapsedTimeIsModularDifference : Obligations.ElapsedTimeIsModularDifference := by
  intro s
  refine ⟨BitVec.toNat_add _ _, ?_⟩
  have hsub : s.elapsed.toNat = (2 ^ 32 - s.last_ts.toNat + s.nextNow.toNat) % 2 ^ 32 := BitVec.toNat_sub _ _
  have hlast := s.last_ts.isLt
  omega

/-! ## The tick decision word (R54 to R57) -/

theorem State.chg_eq_true_iff {s : State} : s.chg = true ↔ s.tgt ≠ s.mode := decide_eq_true_iff

theorem State.upd_eq_true_iff {s : State} : s.upd = true ↔ s.cfg.interval ≤ s.elapsed.toNat := decide_eq_true_iff

theorem State.md_eq_true_iff {s : State} : s.md = true ↔ s.tgt = .allOn := Mode.toBit_eq_true_iff

/-- R57's consequence: without a change the target is the mode. -/
theorem State.md_eq_of_chg_false {s : State} (h : s.chg = false) : s.md = s.mode.toBit := by
  have hsame : s.tgt = s.mode := not_not.mp (of_decide_eq_false h)
  exact congrArg Mode.toBit hsame

/-- Settles O7: each bit of the word is one of the three conditions. -/
theorem tickDecisionWordBits : Obligations.TickDecisionWordBits := by
  intro s
  unfold State.tdw
  rw [word3_bit2, word3_bit1, word3_bit0]
  exact ⟨State.chg_eq_true_iff, State.upd_eq_true_iff, State.md_eq_true_iff, State.md_eq_of_chg_false⟩

/-- The operation of a poll, from the values of the three conditions (R58). -/
theorem State.decodeTdw_tdw_eq {s : State} {i : Instr} {chg upd md : Bool} (hchg : s.chg = chg) (hupd : s.upd = upd)
    (hmd : s.md = md) (hf : i.format = .tdw) (hw : encode i = word3 chg upd md) : decodeTdw s.tdw = i :=
  decodeWord_eq_of_encode (f := .tdw) hf (by rw [hw, State.tdw, hchg, hupd, hmd])

section
variable {s : State}

theorem State.chg_eq_false (h : s.tgt = s.mode) : s.chg = false := decide_eq_false (not_not.mpr h)

theorem State.upd_eq_false (h : s.elapsed.toNat < s.cfg.interval) : s.upd = false := decide_eq_false (Nat.not_le.mpr h)

theorem State.md_eq_toBit {m : Mode} (h : s.tgt = m) : s.md = m.toBit := congrArg Mode.toBit h

end

/-- Settles O8: each of the six conditions fixes CHG, MD and, where the operation depends on it, UPD. -/
theorem tickOperationByConditions : Obligations.TickOperationByConditions := by
  intro s
  refine ⟨fun hne htgt => ⟨s.upd, ?trXf⟩, fun hne htgt => ⟨s.upd, ?trAo⟩, fun hsame hmode hwait => ?xfHold,
    fun hsame hmode hdue => ?xfUpd, fun hsame hmode hwait => ?aoHold, fun hsame hmode hdue => ?aoUpd⟩
  case trXf => exact State.decodeTdw_tdw_eq (State.chg_eq_true_iff.mpr hne) rfl (State.md_eq_toBit htgt) rfl rfl
  case trAo => exact State.decodeTdw_tdw_eq (State.chg_eq_true_iff.mpr hne) rfl (State.md_eq_toBit htgt) rfl rfl
  case xfHold | aoHold =>
    exact State.decodeTdw_tdw_eq (State.chg_eq_false hsame) (State.upd_eq_false hwait)
      (State.md_eq_toBit (hsame.trans hmode)) rfl rfl
  case xfUpd | aoUpd =>
    exact State.decodeTdw_tdw_eq (State.chg_eq_false hsame) (State.upd_eq_true_iff.mpr hdue)
      (State.md_eq_toBit (hsame.trans hmode)) rfl rfl

/-! ## The cycle phase code (R60) -/

theorem State.half_eq_true_iff {s : State} : s.half = true ↔ s.cfg.h ≤ s.t := decide_eq_true_iff

theorem State.act_warm {s : State} (h : s.t < s.cfg.h) : s.act = decide (s.t < s.plan_w) :=
  if_neg fun hhalf => absurd (State.half_eq_true_iff.mp hhalf) (Nat.not_le.mpr h)

theorem State.act_cool {s : State} (h : s.cfg.h ≤ s.t) : s.act = decide (s.t - s.cfg.h < s.plan_c) :=
  if_pos (State.half_eq_true_iff.mpr h)

/-- Settles O9: each bit of the code is one of the three conditions. -/
theorem cyclePhaseCodeBits : Obligations.CyclePhaseCodeBits := by
  intro s
  unfold State.cpc
  rw [word3_bit2, word3_bit1, word3_bit0]
  exact ⟨rfl, State.half_eq_true_iff, fun h => by rw [State.act_warm h, decide_eq_true_iff],
    fun h => by rw [State.act_cool h, decide_eq_true_iff]⟩

/-! ## A transition has priority (R59) -/

/-- A blank cycle shows no light (42_pulse_scheduler.md R119). -/
theorem State.out_of_blank {s : State} (h : s.blank = true) : s.out = (false, false) := if_pos h

/-- A poll with a differing target is a transition tick, whatever UPD is (41_phase_mode.md R88 to R90). -/
theorem step_transition {s : State} (h : s.cfg.refusal = none) (hr : s.inRst = false) (hp : s.nextT = 0)
    (hchg : s.tgt ≠ s.mode) : step s = .next ((s.recordSwitch.transition s.tgt).count.drive false false) := by
  have hdark : (s.recordSwitch.transition s.tgt).count.out = (false, false) := State.out_of_blank rfl
  rw [step_poll h hr hp, tickOperation_eq, if_pos hchg]
  simp only [andThen, hdark]

/-- Settles O43: the registers of the transition tick written out, the position being 0 at a poll. -/
theorem transitionHasPriorityOverUpdate : Obligations.TransitionHasPriorityOverUpdate := by
  intro s h hr hp hchg
  have ht : (s.recordSwitch.transition s.tgt).nextT = 0 := hp
  rw [step_transition h hr hp hchg, State.count, ht]
  rfl

/-! ## Stimulus programs (R70 to R72) -/

/-- Settles O6: the statements of R71 are repetitions of one word, and R72's words are those of the default width. -/
theorem stimulusStatementsExpand : Obligations.StimulusStatementsExpand := by
  refine ⟨fun c rst sw d n k => ⟨rfl, rfl, ?cycles, List.length_replicate, rfl, rfl, ?ticks⟩, rfl, rfl, rfl⟩
  case cycles => exact List.flatten_replicate_singleton.symm
  case ticks => simp only [Stimulus.words, List.replicate_succ, List.flatten_cons]

/-! ## Placing a word (log 7) -/

/-- A step whose listed word was packed has the packed fields. -/
theorem State.inRst_inSw_of_packed {s : State} {rst sw : Bool} {dim : Nat} {ws : List Nat}
    (h : s.inputs = s.cfg.packInput rst sw dim :: ws) : s.inRst = rst ∧ s.inSw = sw := by
  have hw : s.inWordAt 0 = s.cfg.packInput rst sw dim := State.inWordAt_of_listed (by rw [h]; rfl)
  exact ⟨(congrArg s.cfg.rstOf hw).trans (by simp), (congrArg s.cfg.swOf hw).trans (by simp)⟩

theorem target_levelForMode {c : Config} (h : c.refusal = none) (md : Bool) :
    c.target (levelForMode c md) = Mode.ofBit md := by
  obtain h0 | h1 := (Config.legal h).xfadeLevel_mem
  · cases md <;> simp [Config.target, levelForMode, Mode.ofBit, h0]
  · cases md <;> simp [Config.target, levelForMode, Mode.ofBit, h1]

section
variable (s : State) (h : s.cfg.refusal = none)

section
variable (chg upd md : Bool)

theorem State.arrangeTdw_inputs :
    (s.arrangeTdw chg upd md).inRst = false ∧ (s.arrangeTdw chg upd md).inSw = levelForMode s.cfg md :=
  State.inRst_inSw_of_packed rfl

/-- The timestamp is kept where UPD is the wanted one; else it lies I or 0 before the next cycle. -/
theorem State.arrangeTdw_elapsed : (s.arrangeTdw chg upd md).elapsed =
    if s.upd = upd then s.elapsed else if upd then BitVec.ofNat 32 s.cfg.interval else 0 := by
  show s.nextNow - (if s.upd = upd then s.last_ts
    else if upd then s.nextNow - BitVec.ofNat 32 s.cfg.interval else s.nextNow) = _
  split
  · rfl
  · split
    · exact sub_sub_cancel _ _
    · exact sub_self _

include h

theorem State.arrangeTdw_nextT : (s.arrangeTdw chg upd md).nextT = 0 := by
  have hslot := Config.slot_ge_two h
  show (s.cfg.slot - 1 + 1) % s.cfg.slot = 0
  rw [Nat.sub_add_cancel (by omega), Nat.mod_self]

theorem State.arrangeTdw_tgt : (s.arrangeTdw chg upd md).tgt = Mode.ofBit md := by
  unfold State.tgt
  rw [(State.arrangeTdw_inputs s chg upd md).2]
  exact target_levelForMode h md

theorem State.arrangeTdw_chg : (s.arrangeTdw chg upd md).chg = chg := by
  unfold State.chg
  rw [State.arrangeTdw_tgt s h]
  show decide (Mode.ofBit md ≠ Mode.ofBit (xor chg md)) = chg
  simp only [ne_eq, Mode.ofBit_eq_ofBit_iff]
  cases chg <;> cases md <;> rfl

theorem State.arrangeTdw_md : (s.arrangeTdw chg upd md).md = md := by
  unfold State.md
  rw [State.arrangeTdw_tgt s h, Mode.toBit_ofBit]

theorem State.arrangeTdw_upd (hI : 0 < s.cfg.interval) : (s.arrangeTdw chg upd md).upd = upd := by
  have hI32 := Config.interval_add_slot_le h
  show decide (s.cfg.interval ≤ (s.arrangeTdw chg upd md).elapsed.toNat) = upd
  rw [State.arrangeTdw_elapsed]
  by_cases hkeep : s.upd = upd
  · rw [if_pos hkeep]
    exact hkeep
  · rw [if_neg hkeep]
    cases upd with
    | false => exact decide_eq_false (Nat.not_le.mpr hI)
    | true =>
      rw [if_pos rfl, BitVec.toNat_ofNat, Nat.mod_eq_of_lt (by omega)]
      exact decide_eq_true le_rfl

theorem State.arrangeTdw_tdw (hI : 0 < s.cfg.interval) : (s.arrangeTdw chg upd md).tdw = word3 chg upd md := by
  rw [State.tdw, State.arrangeTdw_chg s h, State.arrangeTdw_upd s h chg upd md hI, State.arrangeTdw_md s h]

end

section
variable (blk half act : Bool)

theorem State.arrangeCpc_inRst : (s.arrangeCpc blk half act).inRst = false := (State.inRst_inSw_of_packed rfl).1

/-- The cycle entered: the first of the cool block, or the second of the warm block. -/
theorem State.arrangeCpc_nextT (hh : 2 ≤ s.cfg.h) : (s.arrangeCpc blk half act).nextT = if half then s.cfg.h else 1 := by
  have hslot : s.cfg.slot = 2 * s.cfg.h := rfl
  cases half with
  | true =>
    show (s.cfg.h - 1 + 1) % s.cfg.slot = s.cfg.h
    rw [Nat.sub_add_cancel (by omega), Nat.mod_eq_of_lt (by omega)]
  | false => exact Nat.mod_eq_of_lt (show 0 + 1 < s.cfg.slot by omega)

theorem State.arrangeCpc_count_half (hh : 2 ≤ s.cfg.h) : (s.arrangeCpc blk half act).count.half = half := by
  show decide (s.cfg.h ≤ (s.arrangeCpc blk half act).nextT) = half
  rw [State.arrangeCpc_nextT s blk half act hh]
  cases half with
  | true => exact decide_eq_true le_rfl
  | false => exact decide_eq_false (show ¬ s.cfg.h ≤ 1 by omega)

/-- Cycle 1 is in a pulse of 2 cycles, and cycle H in a pulse of 1, and neither in a pulse of 0. -/
theorem State.arrangeCpc_count_act (hh : 2 ≤ s.cfg.h) : (s.arrangeCpc blk half act).count.act = act := by
  have ht : (s.arrangeCpc blk half act).count.t = if half then s.cfg.h else 1 := State.arrangeCpc_nextT s blk half act hh
  cases half with
  | true =>
    replace ht : (s.arrangeCpc blk true act).count.t = s.cfg.h := ht
    rw [State.act_cool ht.ge, ht]
    show decide (s.cfg.h - s.cfg.h < if act then 1 else 0) = act
    rw [Nat.sub_self]
    cases act <;> rfl
  | false =>
    replace ht : (s.arrangeCpc blk false act).count.t = 1 := ht
    rw [State.act_warm (ht ▸ hh), ht]
    show decide (1 < if act then 2 else 0) = act
    cases act <;> rfl

theorem State.arrangeCpc_count_cpc (hh : 2 ≤ s.cfg.h) : (s.arrangeCpc blk half act).count.cpc = word3 blk half act := by
  rw [State.cpc, State.arrangeCpc_count_half s blk half act hh, State.arrangeCpc_count_act s blk half act hh]
  rfl

end

end

theorem State.arrange_of_tdw (s : State) {i : Instr} (hf : i.format = .tdw) :
    s.arrange i = s.arrangeTdw ((encode i).getLsbD 2) ((encode i).getLsbD 1) ((encode i).getLsbD 0) := by
  simp only [State.arrange, hf]

theorem State.arrange_of_cpc (s : State) {i : Instr} (hf : i.format = .cpc) :
    s.arrange i = s.arrangeCpc ((encode i).getLsbD 2) ((encode i).getLsbD 1) ((encode i).getLsbD 0) := by
  simp only [State.arrange, hf]

/-- Settles O59: by the format of the operation, the state arranged from the word's bits forms them again. -/
theorem placedWordIsFormed : Obligations.PlacedWordIsFormed := by
  intro s i h hI hh
  cases hf : i.format with
  | tdw =>
    rw [State.arrange_of_tdw s hf]
    exact ⟨(State.arrangeTdw_inputs s _ _ _).1,
      fun _ => ⟨State.arrangeTdw_nextT s h _ _ _, (State.arrangeTdw_tdw s h _ _ _ hI).trans (word3_eq_of_bits rfl rfl rfl)⟩,
      nofun⟩
  | cpc =>
    rw [State.arrange_of_cpc s hf]
    refine ⟨State.arrangeCpc_inRst s _ _ _, nofun,
      fun _ => ⟨?notPoll, (State.arrangeCpc_count_cpc s _ _ _ hh).trans (word3_eq_of_bits rfl rfl rfl)⟩⟩
    rw [State.arrangeCpc_nextT s _ _ _ hh]
    split <;> omega

end Machine

end Sys2Proof
end

-- ==== Proofs of the family 40_waveform_table.md ====
section
/-! PROOFS of 40_waveform_table.md: the phase index (R79), the lookup (R80), the accuracy, exact entries and symmetries of the table
(R77, R78), and that nothing writes it (R83). The symmetries turn on R76's remark that no entry is a tie between two integers, by the
argument of Niven's theorem: with no tie, rounding commutes with negation. -/

namespace Sys2Proof

open Machine

/-! ## The phase index (R79) -/

/-- Settles O12: M is N intervals of PERIOD_US, so below M the quotient is below N and the modulo leaves it. -/
theorem phaseIndexIsFloor : Obligations.PhaseIndexIsFloor := by
  intro c h
  have hperiod := Config.periodUs_pos h
  refine ⟨fun p => Nat.mod_lt _ (Config.n_pos h), fun p hp => ?belowModulus, fun k r hk hr => ?interval⟩
  case belowModulus => exact Nat.mod_eq_of_lt (Nat.div_lt_of_lt_mul (by rwa [Nat.mul_comm]))
  case interval =>
    have hquot : (k * c.periodUs + r) / c.periodUs = k := by
      rw [Nat.mul_comm, Nat.mul_add_div hperiod, Nat.div_eq_of_lt hr, Nat.add_zero]
    rw [Config.idx, hquot, Nat.mod_eq_of_lt hk]

/-! ## The lookup (R80) -/

theorem romWordInRange_iff {w : RomWord} : romWordInRange w = true ↔ -16384 ≤ w.toInt ∧ w.toInt ≤ 16384 := by
  simp only [romWordInRange, Bool.and_eq_true, decide_eq_true_eq]

/-- Settles O13: a block's lookup answers the word at the index, and every word of a block is in range. -/
theorem lookupReadsTheRom : Obligations.LookupReadsTheRom := by
  intro c p hb
  obtain ⟨w, hw, hrange, hlookup⟩ := Config.lookup_ok hb p
  exact ⟨w, hw, hlookup, romWordInRange_iff.mp hrange⟩

/-! ## The accuracy of the table (R77) -/

/-- Settles O15: rounding moves a value by at most one half, and 16384 halves are 1/32768. -/
theorem romEntriesWithinEpsilon : Obligations.RomEntriesWithinEpsilon := by
  intro c hl i hi
  obtain ⟨w, hw, hround⟩ := hl i hi
  refine ⟨w, hw, ?_⟩
  have hhalf := abs_sub_round (16384 * Real.sin (2 * Real.pi * i / c.tableN))
  rw [← hround] at hhalf
  rw [abs_le] at hhalf ⊢
  constructor <;> linarith

/-! ## Rounding without ties (R76) -/

section
open Real

/-- Rounding commutes with negation away from the ties. -/
theorem round_neg_of_no_tie {x : ℝ} (h : ∀ z : ℤ, x ≠ z + 1 / 2) : round (-x) = - round x := by
  obtain ⟨hlow, hhigh⟩ := round_eq_iff.mp (rfl : round x = round x)
  have htie : (round x : ℝ) - 1 / 2 ≠ x := fun heq => h (round x - 1) (by push_cast; linarith)
  have hlow' := lt_of_le_of_ne hlow htie
  rw [round_eq_iff]
  push_cast
  constructor <;> linarith

/-- Twice the sine is an algebraic integer, so an integer where it is rational; a tie would make it an odd number over 16384. -/
theorem scaled_sin_no_tie (q : ℚ) (z : ℤ) : 16384 * sin (q * π) ≠ z + 1 / 2 := by
  intro htie
  obtain ⟨k, hk⟩ := (isIntegral_two_mul_sin_rat_mul_pi q).exists_int_iff_exists_rat.mp
    ⟨(2 * z + 1) / 16384, by push_cast; linarith⟩
  have hodd : ((2 * z + 1 : ℤ) : ℝ) = ((16384 * k : ℤ) : ℝ) := by push_cast; linarith
  have := Int.cast_injective hodd
  omega

/-! ## The angle of an entry -/

/-- The angle of entry i, 2 pi i / N (R76). -/
noncomputable def Config.entryAngle (c : Config) (i : Nat) : ℝ := 2 * π * i / c.n

/-- The law of R76, with the elaborated N. -/
theorem Config.RomLaw.entry {c : Config} (hl : c.RomLaw) {i : Nat} (hi : i < c.n) :
    ∃ w, c.rom[i]? = some w ∧ w.toInt = round (16384 * sin (c.entryAngle i)) := by
  have hn : (c.tableN : ℝ) = c.n := by
    have : c.tableN = (c.n : ℤ) := by unfold Config.n at *; omega
    rw [this]; rfl
  obtain ⟨w, hw, hround⟩ := hl i (by unfold Config.n at hi; omega)
  exact ⟨w, hw, by rw [hround, hn]; rfl⟩

/-- Every entry's angle is a rational part of pi, so no entry is a tie. -/
theorem Config.entryAngle_no_tie (c : Config) (i : Nat) (z : ℤ) : 16384 * sin (c.entryAngle i) ≠ z + 1 / 2 := by
  have hrat : c.entryAngle i = ((2 * i / c.n : ℚ) : ℝ) * π := by unfold Config.entryAngle; push_cast; ring
  rw [hrat]
  exact scaled_sin_no_tie _ z

theorem Config.entryAngle_add (c : Config) (i k : Nat) : c.entryAngle (i + k) = c.entryAngle i + c.entryAngle k := by
  unfold Config.entryAngle
  push_cast
  ring

section
variable {c : Config} (hn : 0 < c.n)
include hn

/-- N entries are one full turn. -/
theorem Config.entryAngle_n_mul (k : Nat) : c.entryAngle (c.n * k) = k * (2 * π) := by
  have : (c.n : ℝ) ≠ 0 := by exact_mod_cast hn.ne'
  unfold Config.entryAngle
  push_cast
  field_simp

/-- The table repeats with period N. -/
theorem Config.sin_entryAngle_mod (i : Nat) : sin (c.entryAngle (i % c.n)) = sin (c.entryAngle i) := by
  conv_rhs => rw [← Nat.mod_add_div i c.n, Config.entryAngle_add, Config.entryAngle_n_mul hn, sin_add_nat_mul_two_pi]

/-- Where d divides N, entry k N / d stands at k d-ths of a turn. -/
theorem Config.entryAngle_fraction {d : Nat} (hd : d ∣ c.n) (k : Nat) : c.entryAngle (k * c.n / d) = 2 * π * k / d := by
  have hn0 : (c.n : ℝ) ≠ 0 := by exact_mod_cast hn.ne'
  have hd0 : (d : ℝ) ≠ 0 := by exact_mod_cast (Nat.pos_of_dvd_of_pos hd hn).ne'
  unfold Config.entryAngle
  rw [Nat.cast_div (hd.mul_left k) hd0]
  push_cast
  field_simp

/-- Half a turn negates the sine. -/
theorem Config.sin_entryAngle_half_turn (h2 : 2 ∣ c.n) (i : Nat) :
    sin (c.entryAngle ((i + c.n / 2) % c.n)) = - sin (c.entryAngle i) := by
  have hpi : c.entryAngle (c.n / 2) = π := by
    have := Config.entryAngle_fraction hn h2 1
    rw [Nat.one_mul] at this
    rw [this]
    push_cast
    ring
  rw [Config.sin_entryAngle_mod hn, Config.entryAngle_add, hpi, sin_add_pi]

/-- The mirrored entry stands at the rest of the turn. -/
theorem Config.sin_entryAngle_mirror {i : Nat} (hi : i < c.n) :
    sin (c.entryAngle ((c.n - i) % c.n)) = - sin (c.entryAngle i) := by
  have hturn : c.entryAngle (c.n - i) + c.entryAngle i = 2 * π := by
    rw [← Config.entryAngle_add, Nat.sub_add_cancel hi.le]
    simpa using Config.entryAngle_n_mul hn 1
  rw [Config.sin_entryAngle_mod hn, eq_sub_of_add_eq hturn, sin_two_pi_sub]

end

/-! ## Exact entries and symmetries (R78) -/

namespace Config.RomLaw
variable {c : Config} (hl : c.RomLaw)
include hl

/-- Where the scaled sine of k d-ths of a turn is an integer, entry k N / d is that integer. -/
theorem entry_fraction (hn : 0 < c.n) {d k : Nat} (hd : d ∣ c.n) (hk : k < d) {z : ℤ}
    (hz : 16384 * sin (2 * π * k / d) = z) : ∃ w, c.rom[k * c.n / d]? = some w ∧ w.toInt = z := by
  have hi : k * c.n / d < c.n := Nat.div_lt_of_lt_mul (Nat.mul_lt_mul_of_pos_right hk hn)
  obtain ⟨w, hw, hround⟩ := hl.entry hi
  exact ⟨w, hw, by rw [hround, Config.entryAngle_fraction hn hd, hz, round_intCast]⟩

/-- The first of d parts: entry N / d. -/
theorem entry_unit_fraction (hn : 0 < c.n) {d : Nat} (hd : d ∣ c.n) (h1 : 1 < d) {z : ℤ}
    (hz : 16384 * sin (2 * π / d) = z) : ∃ w, c.rom[c.n / d]? = some w ∧ w.toInt = z := by
  have := hl.entry_fraction hn hd h1 (z := z) (by rw [← hz, Nat.cast_one, mul_one])
  rwa [Nat.one_mul] at this

/-- Opposite sines have opposite entries, since neither is a tie. -/
theorem entry_neg {i j : Nat} (hi : i < c.n) (hj : j < c.n) (hs : sin (c.entryAngle j) = - sin (c.entryAngle i)) :
    ∃ v w, c.rom[i]? = some v ∧ c.rom[j]? = some w ∧ w.toInt = - v.toInt := by
  obtain ⟨v, hv, hvround⟩ := hl.entry hi
  obtain ⟨w, hw, hwround⟩ := hl.entry hj
  refine ⟨v, w, hv, hw, ?_⟩
  rw [hvround, hwround, hs, mul_neg, round_neg_of_no_tie (c.entryAngle_no_tie i)]

end Config.RomLaw

/-- Settles O16: the exact entries are those of 0, 1, 3 quarters, a half and a twelfth of a turn; the symmetries are those of the sine. -/
theorem romExactEntriesAndSymmetries : Obligations.RomExactEntriesAndSymmetries := by
  intro c hl hN
  have hn : 0 < c.n := by unfold Config.n; omega
  refine ⟨?zero, fun h4 => ⟨?quarter, ?threeQuarters⟩, fun h2 => ⟨?half, fun i hi => ?halfTurn⟩, fun i hi => ?mirror,
    fun h12 => ?twelfth⟩
  case zero => simpa using hl.entry_fraction hn (one_dvd c.n) one_pos (z := 0) (by simp)
  case quarter =>
    have hsin : sin (2 * π / (4 : Nat)) = 1 := by rw [← sin_pi_div_two]; congr 1; push_cast; ring
    exact hl.entry_unit_fraction hn h4 (by decide) (by rw [hsin]; norm_num)
  case threeQuarters =>
    have hsin : sin (2 * π * (3 : Nat) / (4 : Nat)) = -1 := by
      rw [← sin_pi_div_two, ← sin_add_pi]; congr 1; push_cast; ring
    exact hl.entry_fraction hn h4 (by decide) (by rw [hsin]; norm_num)
  case half =>
    have hsin : sin (2 * π / (2 : Nat)) = 0 := by rw [← sin_pi]; congr 1; push_cast; ring
    exact hl.entry_unit_fraction hn h2 (by decide) (by rw [hsin]; norm_num)
  case halfTurn => exact hl.entry_neg hi (Nat.mod_lt _ hn) (Config.sin_entryAngle_half_turn hn h2 i)
  case mirror => exact hl.entry_neg hi (Nat.mod_lt _ hn) (Config.sin_entryAngle_mirror hn hi)
  case twelfth =>
    have hsin : sin (2 * π / (12 : Nat)) = 1 / 2 := by rw [← sin_pi_div_six]; congr 1; push_cast; ring
    exact hl.entry_unit_fraction hn h12 (by decide) (by rw [hsin]; norm_num)

end

namespace Machine

/-! ## Nothing writes the table (R83) -/

/-- Each operation's writes are named updates of the registers and ports, and none names the configuration. -/
theorem exec_keeps_cfg {i : Instr} {s s' : State} (h : exec i s = .next s') : s'.cfg = s.cfg := by
  cases i with
  | xfHold | xfUpd => obtain ⟨sq, -, rfl⟩ := withBlend_next h; rfl
  | trXf | trAo | aoHold | aoUpd | blank | wOn | wRem | cOn | cRem => cases h; rfl

/-- Settles O45: for a step, by what every clock edge keeps. -/
theorem romAndParametersAreNeverWritten : Obligations.RomAndParametersAreNeverWritten :=
  ⟨fun _ _ _ => exec_keeps_cfg, fun _ _ h => (step_inputs h).1⟩

end Machine

end Sys2Proof
end

-- ==== Proofs of the family 41_phase_mode.md ====
section
/-! PROOFS of 41_phase_mode.md: the six tick operations (R88 to R102), the step (R103, R104) and what it reads of its inputs (R86,
R95), the tick grid (R106), and runs: counting (R105), the blank tick of a transition (R90, R108), the cadence of updates (R106) and
the phase they reach (R94, R107). The claims about runs rest on three facts: what a step does to the timestamp, that the elapsed time
stays on the tick grid, and one induction over runs without reset. -/

namespace Sys2Proof

open Machine

namespace Machine

variable {a b s s' s1 u u' : State}

/-! ## The tick operations (R88, R89, R99 to R102) -/

/-- Settles O26: neither operation looks at its UPD bit or at the ROM. -/
theorem transitionsResult : Obligations.TransitionsResult := fun _ _ => ⟨rfl, rfl⟩

theorem exec_xfHold_of_lookup {sq : Int} (h : s.cfg.lookup s.phase_acc = .ok sq) :
    exec .xfHold s = .next (s.recordSwitch.emit (s.cfg.plan sq s.dim_reg)) := by
  simp only [exec, execXfHold, h, withBlend]

theorem exec_xfUpd_of_lookup {sq : Int} (h : s.cfg.lookup s.advancedPhase = .ok sq) :
    exec .xfUpd s = .next ((s.recordSwitch.update s.advancedPhase s.dimSample).emit (s.cfg.plan sq s.dimSample)) := by
  simp only [exec, execXfUpd, h, withBlend]

/-- Settles O27: a block's lookup answers at the held phase. -/
theorem crossfadeHoldResult : Obligations.CrossfadeHoldResult := by
  intro s hb
  obtain ⟨w, hw, -, hlookup⟩ := Config.lookup_ok hb s.phase_acc
  exact ⟨w, hw, exec_xfHold_of_lookup hlookup⟩

/-- Settles O28: a block's lookup answers at the advanced phase. -/
theorem crossfadeUpdateResult : Obligations.CrossfadeUpdateResult := by
  rintro s _ _ hb rfl rfl
  obtain ⟨w, hw, -, hlookup⟩ := Config.lookup_ok hb s.advancedPhase
  exact ⟨w, hw, exec_xfUpd_of_lookup hlookup⟩

/-- Settles O29: the blend operand is 0, so no lookup can stop the operation. -/
theorem allOnHoldResult : Obligations.AllOnHoldResult := fun _ => rfl

/-- Settles O30: the blend operand is 0, so no lookup can stop the operation. -/
theorem allOnUpdateResult : Obligations.AllOnUpdateResult := by
  rintro s _ rfl
  rfl

/-! ## The step and the operations it decodes (R103, R104) -/

/-- Settles O33: the cycle operation of a state is its decoded CPC's. -/
theorem pollStepRunsDecodedOperation : Obligations.PollStepRunsDecodedOperation := by
  rintro s _ h hr hp rfl -
  have hcycle : ∀ s1 : State, exec (decodeCpc s1.cpc) s1 = .next (s1.drive s1.out.1 s1.out.2) := driveOutputs_eq
  simp only [step_poll h hr hp, hcycle]
  rfl

/-- Settles O34: a reset and a non-poll step run no tick operation. -/
theorem otherStepsRunDecodedCycleOperation : Obligations.OtherStepsRunDecodedCycleOperation := by
  intro s i h _
  refine ⟨?reset, ?count⟩
  case reset =>
    rintro hr rfl
    exact (step_reset h hr).trans (driveOutputs_eq s.resetRegisters).symm
  case count =>
    rintro hr hp rfl
    exact (step_count h hr hp).trans (driveOutputs_eq s.count).symm

theorem State.count_of_lt (h : s.t + 1 < s.cfg.slot) :
    s.count = { s with now_us := s.now_us + 1, t := s.t + 1, inputs := s.inputs.tail, cycle := s.cycle + 1 } := by
  rw [State.count, nextT_of_lt h]
  rfl

/-- Settles O42: below the last position the counted position is one up, and the output function reads nothing else that counts. -/
theorem nonPollStepOnlyCounts : Obligations.NonPollStepOnlyCounts := by
  intro s h ht hr hlast
  have hlt : s.t + 1 < s.cfg.slot := by omega
  have hp : s.nextT ≠ 0 := by rw [nextT_of_lt hlt]; exact Nat.succ_ne_zero _
  rw [step_count h hr hp, State.count_of_lt hlt]
  rfl

/-! ## Polls by the mode: the blend operand and the phase (R93, R97, R98) -/

/-- The blend operand of a plan emitted at a phase: the lookup in Crossfade, 0 in AllOn (R98). -/
def State.blendAt (s : State) (phase : Nat) : Except Fault Int :=
  if s.mode = .allOn then .ok 0 else s.cfg.lookup phase

/-- The phase an update leaves: advanced in Crossfade, frozen in AllOn (R93, R97). -/
def State.updatedPhase (s : State) : Nat := if s.mode = .crossfade then s.advancedPhase else s.phase_acc

/-- The registers a hold writes, for its blend value (R99, R101). -/
def State.holdTick (s : State) (sq : Int) : State := s.recordSwitch.emit (s.cfg.plan sq s.dim_reg)

/-- The registers an update writes, for its blend value (R100, R102). -/
def State.updateTick (s : State) (sq : Int) : State :=
  (s.recordSwitch.update s.updatedPhase s.dimSample).emit (s.cfg.plan sq s.dimSample)

theorem State.blendAt_ok (hb : s.cfg.Block) (phase : Nat) : ∃ sq, s.blendAt phase = .ok sq := by
  unfold State.blendAt
  split
  · exact ⟨0, rfl⟩
  · obtain ⟨w, -, -, hlookup⟩ := Config.lookup_ok hb phase
    exact ⟨_, hlookup⟩

/-- The two holds are one operation but for the blend operand (R99, R101). -/
theorem tickOperation_hold (hsame : s.tgt = s.mode) (hwait : s.elapsed.toNat < s.cfg.interval) :
    tickOperation s = withBlend (s.blendAt s.phase_acc) s.holdTick := by
  rw [tickOperation_eq, if_neg (not_not.mpr hsame)]
  unfold State.blendAt State.holdTick
  cases hm : s.mode <;> simp [Nat.not_le.mpr hwait, execXfHold, execAoHold, withBlend]

/-- The two updates are one operation but for the blend operand and the phase (R100, R102). -/
theorem tickOperation_update (hsame : s.tgt = s.mode) (hdue : s.cfg.interval ≤ s.elapsed.toNat) :
    tickOperation s = withBlend (s.blendAt s.updatedPhase) s.updateTick := by
  rw [tickOperation_eq, if_neg (not_not.mpr hsame)]
  unfold State.blendAt State.updateTick State.updatedPhase
  cases hm : s.mode <;> simp [hdue, execXfUpd, execAoUpd, withBlend]
  rfl

/-! ## The complete step function (R104) -/

theorem referenceRegisters_reset (hr : s.inRst = true) : referenceRegisters s = .ok s.resetRegisters := by
  rw [referenceRegisters, if_pos hr]
  rfl

theorem referenceRegisters_count (hr : s.inRst = false) (hp : s.nextT ≠ 0) : referenceRegisters s = .ok s.count := by
  rw [referenceRegisters, if_neg (by simp [hr])]
  exact if_pos hp

theorem referenceRegisters_transition (hr : s.inRst = false) (hp : s.nextT = 0) (hchg : s.tgt ≠ s.mode) :
    referenceRegisters s = .ok (s.recordSwitch.transition s.tgt).count := by
  rw [referenceRegisters, if_neg (by simp [hr])]
  exact (if_neg (not_not.mpr hp)).trans (if_pos hchg)

theorem referenceRegisters_hold (hr : s.inRst = false) (hp : s.nextT = 0) (hsame : s.tgt = s.mode)
    (hwait : s.elapsed.toNat < s.cfg.interval) :
    referenceRegisters s = (s.blendAt s.phase_acc).map fun sq => (s.holdTick sq).count := by
  have hwait' : ¬ s.cfg.interval ≤ (s.now_us + 1 - s.last_ts).toNat := Nat.not_le.mpr hwait
  rw [referenceRegisters, if_neg (by simp [hr])]
  refine (if_neg (not_not.mpr hp)).trans ((if_neg (not_not.mpr hsame)).trans ?_)
  simp only [hwait', false_and, if_false]
  change (match s.blendAt s.phase_acc with | .error f => _ | .ok sq => _) = _
  cases s.blendAt s.phase_acc <;> rfl

theorem referenceRegisters_update (hr : s.inRst = false) (hp : s.nextT = 0) (hsame : s.tgt = s.mode)
    (hdue : s.cfg.interval ≤ s.elapsed.toNat) :
    referenceRegisters s = (s.blendAt s.updatedPhase).map fun sq => (s.updateTick sq).count := by
  have hdue' : s.cfg.interval ≤ (s.now_us + 1 - s.last_ts).toNat := hdue
  rw [referenceRegisters, if_neg (by simp [hr])]
  refine (if_neg (not_not.mpr hp)).trans ((if_neg (not_not.mpr hsame)).trans ?_)
  simp only [hdue', true_and, if_true]
  change (match s.blendAt s.updatedPhase with | .error f => _ | .ok sq => _) = _
  cases s.blendAt s.updatedPhase <;> rfl

theorem referenceStep_of_ok (h : referenceRegisters s = .ok s1) : referenceStep s = .next (s1.drive s1.out.1 s1.out.2) := by
  rw [referenceStep, h]
  rfl

/-- Where a blend value is looked up, the reference and the machine stop on the same fault and go on to the same state. -/
theorem referenceStep_of_blend {q : Except Fault Int} {f : Int → State}
    (h : referenceRegisters s = q.map fun sq => (f sq).count) :
    referenceStep s = andThen (withBlend q f) fun s1 => .next (s1.count.drive s1.count.out.1 s1.count.out.2) := by
  rw [referenceStep, h]
  cases q <;> rfl

/-- Settles O35: by the five ways a step goes: reset, counting, and a poll that is a transition, an update or a hold. -/
theorem stepIsCompleteStepFunction : Obligations.StepIsCompleteStepFunction := by
  intro s h
  cases hr : s.inRst with
  | true => rw [step_reset h hr, referenceStep_of_ok (referenceRegisters_reset hr)]; rfl
  | false =>
    by_cases hp : s.nextT = 0
    · by_cases hsame : s.tgt = s.mode
      · rw [step_poll h hr hp]
        by_cases hdue : s.cfg.interval ≤ s.elapsed.toNat
        · rw [tickOperation_update hsame hdue, referenceStep_of_blend (referenceRegisters_update hr hp hsame hdue)]
        · have hwait := Nat.not_le.mp hdue
          rw [tickOperation_hold hsame hwait, referenceStep_of_blend (referenceRegisters_hold hr hp hsame hwait)]
      · rw [step_transition h hr hp hsame, referenceStep_of_ok (referenceRegisters_transition hr hp hsame)]; rfl
    · rw [step_count h hr hp, referenceStep_of_ok (referenceRegisters_count hr hp)]

/-! ## What a step reads of its inputs (R86, R95) -/

/-- States with the same registers are one state under different inputs. -/
theorem State.SameRegisters.exists_inputs (h : a.SameRegisters b) :
    ∃ ins n, b = { a with inputs := ins, cycle := n } := by
  refine ⟨b.inputs, b.cycle, ?_⟩
  have hab : ({ a with inputs := [], cycle := 0 } : State) = { b with inputs := [], cycle := 0 } := h
  exact (congrArg (fun v : State => { v with inputs := b.inputs, cycle := b.cycle }) hab).symm

namespace State.SameRegisters

variable (h : a.SameRegisters b)
include h

theorem cfg_eq : b.cfg = a.cfg := by obtain ⟨_, _, rfl⟩ := h.exists_inputs; rfl

theorem mode_eq : b.mode = a.mode := by obtain ⟨_, _, rfl⟩ := h.exists_inputs; rfl

theorem nextT_eq : b.nextT = a.nextT := by obtain ⟨_, _, rfl⟩ := h.exists_inputs; rfl

theorem elapsed_eq : b.elapsed = a.elapsed := by obtain ⟨_, _, rfl⟩ := h.exists_inputs; rfl

theorem tgt_eq (hsw : a.inSw = b.inSw) : b.tgt = a.tgt := by rw [State.tgt, h.cfg_eq, ← hsw, State.tgt]

theorem recordSwitch (hsw : a.inSw = b.inSw) : a.recordSwitch.SameRegisters b.recordSwitch := by
  unfold State.recordSwitch
  rw [hsw]
  obtain ⟨_, _, rfl⟩ := h.exists_inputs
  rfl

theorem transition (m : Mode) : (a.transition m).SameRegisters (b.transition m) := by
  obtain ⟨_, _, rfl⟩ := h.exists_inputs; rfl

theorem blendAt_phase_acc_eq : b.blendAt b.phase_acc = a.blendAt a.phase_acc := by
  obtain ⟨_, _, rfl⟩ := h.exists_inputs; rfl

theorem holdTick (hsw : a.inSw = b.inSw) (sq : Int) : (a.holdTick sq).SameRegisters (b.holdTick sq) := by
  unfold State.holdTick
  obtain ⟨_, _, hrec⟩ := (h.recordSwitch hsw).exists_inputs
  rw [hrec]
  obtain ⟨_, _, rfl⟩ := h.exists_inputs
  rfl

theorem count : a.count.SameRegisters b.count := by obtain ⟨_, _, rfl⟩ := h.exists_inputs; rfl

theorem resetRegisters : a.resetRegisters.SameRegisters b.resetRegisters := by
  obtain ⟨_, _, rfl⟩ := h.exists_inputs; rfl

theorem drive (w c : Bool) : (a.drive w c).SameRegisters (b.drive w c) := by
  obtain ⟨_, _, rfl⟩ := h.exists_inputs; rfl

theorem drive_out : (a.drive a.out.1 a.out.2).SameRegisters (b.drive b.out.1 b.out.2) := by
  obtain ⟨_, _, rfl⟩ := h.exists_inputs; rfl

end State.SameRegisters

/-- Settles O47: both steps only count, and counting reads no input. -/
theorem inputsBetweenPollsHaveNoEffect : Obligations.InputsBetweenPollsHaveNoEffect := by
  intro a b h hab hra hrb hp
  exact ⟨_, _, step_count h hra hp, step_count (hab.cfg_eq ▸ h) hrb (hab.nextT_eq ▸ hp), hab.count.drive_out⟩

/-- A hold poll answers a state made of the registers, where the input gives the switch record alone (R99, R101). -/
theorem step_hold (h : s.cfg.refusal = none) (hr : s.inRst = false) (hp : s.nextT = 0) (hsame : s.tgt = s.mode)
    (hwait : s.elapsed.toNat < s.cfg.interval) {sq : Int} (hq : s.blendAt s.phase_acc = .ok sq) :
    step s = .next ((s.holdTick sq).count.drive (s.holdTick sq).count.out.1 (s.holdTick sq).count.out.2) := by
  rw [step_poll h hr hp, tickOperation_hold hsame hwait, hq]
  rfl

/-- Settles O48: of the ways a step goes only an update samples the dimmer; the others build their states from the registers, `rst`
and the switch. -/
theorem dimmerIsReadOnlyByUpdates : Obligations.DimmerIsReadOnlyByUpdates := by
  intro a b hb hab hrst hsw hcase
  have hlegal : b.cfg.refusal = none := hab.cfg_eq ▸ hb.1
  cases hr : a.inRst with
  | true => exact ⟨_, _, step_reset hb.1 hr, step_reset hlegal (hrst ▸ hr), hab.resetRegisters.drive _ _⟩
  | false =>
    have hrb : b.inRst = false := hrst ▸ hr
    have htgt : b.tgt = a.tgt := hab.tgt_eq hsw
    by_cases hp : a.nextT = 0
    · have hpb : b.nextT = 0 := hab.nextT_eq.trans hp
      by_cases hsame : a.tgt = a.mode
      · have hwait : a.elapsed.toNat < a.cfg.interval := by simpa [hr, hp, hsame] using hcase
        obtain ⟨sq, hq⟩ := State.blendAt_ok hb a.phase_acc
        exact ⟨_, _, step_hold hb.1 hr hp hsame hwait hq,
          step_hold hlegal hrb hpb (htgt.trans (hsame.trans hab.mode_eq.symm))
            (by rw [hab.elapsed_eq, hab.cfg_eq]; exact hwait) (hab.blendAt_phase_acc_eq.trans hq),
          (hab.holdTick hsw sq).count.drive_out⟩
      · refine ⟨_, _, step_transition hb.1 hr hp hsame,
          step_transition hlegal hrb hpb (by rw [htgt, hab.mode_eq]; exact hsame), ?_⟩
        rw [htgt]
        exact ((hab.recordSwitch hsw).transition a.tgt).count.drive false false
    · exact inputsBetweenPollsHaveNoEffect a b hb.1 hab hr hrb hp

/-! ## Timestamps and the tick grid (R96, R106) -/

/-- The timestamp after a poll: recorded by a transition and by an update, kept by a hold. -/
theorem TickResult.timestamp_cases (ht : TickResult s s1) :
    ((s.tgt ≠ s.mode ∨ s.cfg.interval ≤ s.elapsed.toNat) ∧ s1.last_ts = s.nextNow) ∨
    ((s.tgt = s.mode ∧ s.elapsed.toNat < s.cfg.interval) ∧ s1.last_ts = s.last_ts) := by
  cases ht with
  | transition hchg => exact .inl ⟨.inl hchg, rfl⟩
  | updateCrossfade _ hupd | updateAllOn _ hupd => exact .inl ⟨.inr hupd, rfl⟩
  | holdCrossfade hsame hwait | holdAllOn hsame hwait => exact .inr ⟨⟨hsame, hwait⟩, rfl⟩

/-- The timestamp after a non-reset step: only a poll that is a transition or an update records it. -/
theorem step_timestamp_cases (h : step s = .next s') (hr : s.inRst = false) :
    (s.nextT = 0 ∧ (s.tgt ≠ s.mode ∨ s.cfg.interval ≤ s.elapsed.toNat) ∧ s'.last_ts = s.nextNow) ∨
    ((s.nextT = 0 → s.tgt = s.mode ∧ s.elapsed.toNat < s.cfg.interval) ∧ s'.last_ts = s.last_ts) := by
  obtain ⟨-, s1, he, rfl⟩ := step_next h
  cases he with
  | reset hrst => rw [hr] at hrst; cases hrst
  | count _ hp => exact .inr ⟨fun h0 => absurd h0 hp, rfl⟩
  | poll _ hp s2 ht =>
    obtain ⟨hwhy, hts⟩ | ⟨hwhy, hts⟩ := ht.timestamp_cases
    · exact .inl ⟨hp, hwhy, hts⟩
    · exact .inr ⟨fun _ => hwhy, hts⟩

theorem State.elapsed_of_recorded (hnow : s'.now_us = s.nextNow) (hts : s'.last_ts = s.nextNow) : s'.elapsed.toNat = 1 := by
  have : s'.elapsed = 1 := by
    rw [State.elapsed, State.nextNow, hnow, hts]
    exact add_sub_cancel_left _ _
  rw [this]
  rfl

theorem State.elapsed_of_kept (hnow : s'.now_us = s.nextNow) (hts : s'.last_ts = s.last_ts) :
    s'.elapsed = s.elapsed + 1 := by
  rw [State.elapsed, State.nextNow, hnow, hts]
  exact add_sub_right_comm _ _ _

theorem State.nextT_eq_zero_iff (ht : s.t < s.cfg.slot) : s.nextT = 0 ↔ s.t + 1 = s.cfg.slot where
  mp := fun h => by
    have hdvd := Nat.le_of_dvd (Nat.succ_pos _) (Nat.dvd_of_mod_eq_zero h)
    omega
  mpr := fun h => by rw [State.nextT, h, Nat.mod_self]

/-- On the grid the elapsed time of a kept timestamp grows by 1 and does not wrap. -/
theorem State.OnGrid.elapsed_of_kept (hg : s.OnGrid) (h : s.cfg.refusal = none) (hnow : s'.now_us = s.nextNow)
    (hts : s'.last_ts = s.last_ts) (hwait : s.nextT = 0 → s.elapsed.toNat < s.cfg.interval) :
    s'.elapsed.toNat = s.elapsed.toNat + 1 := by
  have hmax := Config.interval_add_slot_le h
  have hbound : s.elapsed.toNat + 1 ≤ s.cfg.interval + s.cfg.slot := by
    have hin := hg.t_in_tick
    have hle := hg.elapsed_bounded
    have hpoll := State.nextT_eq_zero_iff hin
    by_cases hp : s.nextT = 0
    · have := hwait hp
      omega
    · omega
  rw [State.elapsed_of_kept hnow hts, BitVec.toNat_add]
  exact Nat.mod_eq_of_lt (by show s.elapsed.toNat + 1 < 2 ^ 32; omega)

/-- A step that keeps the timestamp goes on along the grid. -/
theorem State.OnGrid.of_kept (hg : s.OnGrid) (hslot : 0 < s.cfg.slot) (hcfg : s'.cfg = s.cfg) (ht : s'.t = s.nextT)
    (he : s'.elapsed.toNat = s.elapsed.toNat + 1) (hwait : s.nextT = 0 → s.elapsed.toNat < s.cfg.interval) : s'.OnGrid where
  t_in_tick := by rw [hcfg, ht]; exact Nat.mod_lt _ hslot
  elapsed_on_grid := by rw [he, hcfg, State.nextT, hcfg, ht, ← hg.elapsed_on_grid, Nat.mod_add_mod]
  elapsed_bounded := by
    rw [he, hcfg, ht]
    by_cases hp : s.nextT = 0
    · have := hwait hp
      omega
    · have hin := hg.t_in_tick
      have hle := hg.elapsed_bounded
      have hnext : s.nextT = s.t + 1 := nextT_of_lt (by have := State.nextT_eq_zero_iff hin; omega)
      omega

/-- The first cycle after a recorded timestamp is on the grid. -/
theorem State.OnGrid.of_recorded (hslot : 2 ≤ s.cfg.slot) (ht : s.t = 0) (he : s.elapsed.toNat = 1) : s.OnGrid where
  t_in_tick := by omega
  elapsed_on_grid := by rw [he, State.nextT, ht]
  elapsed_bounded := by omega

/-- After reset the next cycle is cycle 0 of both counters (70_reset_and_hazards.md R154). -/
theorem State.resetFor_elapsed (c : Config) : (State.resetFor c).elapsed = 0 := by
  show 0xFFFFFFFF#32 + 1 - 0 = 0
  decide

theorem State.OnGrid.of_resetFor {c : Config} (h : c.refusal = none) : (State.resetFor c).OnGrid where
  t_in_tick := Config.resetT_lt_slot h
  elapsed_on_grid := by
    have hlast : c.resetT + 1 = c.slot := Nat.sub_add_cancel (by have := Config.slot_ge_two h; omega)
    rw [State.resetFor_elapsed, (State.nextT_eq_zero_iff (Config.resetT_lt_slot h)).mpr hlast]
    exact Nat.zero_mod _
  elapsed_bounded := by rw [State.resetFor_elapsed]; exact Nat.zero_le _

/-- The elapsed time after a non-reset step on the grid: 1 where the step records the timestamp, else one more. -/
theorem State.OnGrid.step_elapsed_cases (hg : s.OnGrid) (h : step s = .next s') (hr : s.inRst = false) :
    (s.nextT = 0 ∧ (s.tgt ≠ s.mode ∨ s.cfg.interval ≤ s.elapsed.toNat) ∧ s'.elapsed.toNat = 1) ∨
    ((s.nextT = 0 → s.elapsed.toNat < s.cfg.interval) ∧ s'.elapsed.toNat = s.elapsed.toNat + 1) := by
  obtain ⟨-, hnow⟩ := step_counts h hr
  obtain ⟨hp, hwhy, hts⟩ | ⟨hwait, hts⟩ := step_timestamp_cases h hr
  · exact .inl ⟨hp, hwhy, State.elapsed_of_recorded hnow hts⟩
  · exact .inr ⟨fun hp => (hwait hp).2, hg.elapsed_of_kept (step_next h).1 hnow hts fun hp => (hwait hp).2⟩

theorem step_onGrid (hg : s.OnGrid) (h : step s = .next s') : s'.OnGrid := by
  obtain ⟨hlegal, -⟩ := step_next h
  have hslot := Config.slot_ge_two hlegal
  cases hr : s.inRst with
  | true =>
    obtain rfl : s.resetRegisters.drive false false = s' := by simpa [step_reset hlegal hr] using h
    exact { State.OnGrid.of_resetFor hlegal with }
  | false =>
    obtain ⟨hcfg, -⟩ := step_inputs h
    obtain ⟨ht, -⟩ := step_counts h hr
    obtain ⟨hp, -, he⟩ | ⟨hwait, he⟩ := hg.step_elapsed_cases h hr
    · exact State.OnGrid.of_recorded (hcfg ▸ hslot) (ht.trans hp) he
    · exact hg.of_kept (by omega) hcfg ht he hwait

/-- Settles O52: the grid is kept by every step, and at a poll it says that the elapsed time is a whole number of ticks. -/
theorem elapsedTimeStaysOnTickGrid : Obligations.ElapsedTimeStaysOnTickGrid := by
  refine ⟨fun c => State.OnGrid.of_resetFor, fun s s' => step_onGrid, fun s h hg hp => ⟨?dvd, ?bound, ?noWrap⟩⟩
  case dvd => exact Nat.dvd_of_mod_eq_zero (hg.elapsed_on_grid.trans hp)
  case bound =>
    have hin := hg.t_in_tick
    have hle := hg.elapsed_bounded
    omega
  case noWrap => exact Config.interval_add_slot_le h

/-! ## Runs without reset (R105) -/

/-- In a block every step completes (60_exceptions.md R136). -/
theorem step_completes (hb : s.cfg.Block) : ∃ s', step s = .next s' := by
  cases hr : s.inRst with
  | true => exact ⟨_, step_reset hb.1 hr⟩
  | false =>
    by_cases hp : s.nextT = 0
    · obtain ⟨s1, h1⟩ := tickOperation_ok hb
      exact ⟨_, (step_poll hb.1 hr hp).trans (by rw [h1]; rfl)⟩
    · exact ⟨_, step_count hb.1 hr hp⟩

/-- What k non-reset steps from `s` make of the parameters, the two counters and the inputs to come, whatever the polls among them
do: the state `u` reached has counted k cycles. -/
structure State.Counted (s : State) (k : Nat) (u : State) : Prop where
  cfg_eq : u.cfg = s.cfg
  now_us_eq : u.now_us = s.now_us + BitVec.ofNat 32 k
  t_eq : u.t = (s.t + k) % s.cfg.slot
  rstAt_eq : ∀ j, u.rstAt j = s.rstAt (k + j)
  swAt_eq : ∀ j, u.swAt j = s.swAt (k + j)

namespace State.Counted

theorem zero (ht : s.t < s.cfg.slot) : s.Counted 0 s where
  cfg_eq := rfl
  now_us_eq := (BitVec.add_zero _).symm
  t_eq := (Nat.mod_eq_of_lt ht).symm
  rstAt_eq j := by rw [Nat.zero_add]
  swAt_eq j := by rw [Nat.zero_add]

variable {k n : Nat} (hc : s.Counted k u)
include hc

theorem inRst_eq : u.inRst = s.rstAt k := hc.rstAt_eq 0

theorem inRst_eq_false (hn : s.NoResetFor n) (hk : k < n) : u.inRst = false := hc.inRst_eq.trans (hn k hk)

theorem nextNow_eq : u.nextNow = s.now_us + BitVec.ofNat 32 (k + 1) := by
  rw [State.nextNow, hc.now_us_eq, BitVec.ofNat_add, BitVec.add_assoc]
  rfl

theorem nextT_eq : u.nextT = (s.t + (k + 1)) % s.cfg.slot := by
  rw [State.nextT, hc.cfg_eq, hc.t_eq, Nat.mod_add_mod, Nat.add_assoc]

/-- At a poll of the run the switch selects the mode that the polls of the run select. -/
theorem tgt_eq {m : Mode} (hpt : s.PollsTarget n m) (hk : k < n) (hp : u.nextT = 0) : u.tgt = m := by
  have hsw : u.inSw = s.swAt k := hc.swAt_eq 0
  rw [State.tgt, hc.cfg_eq, hsw]
  refine hpt k hk ?_
  rw [Nat.add_right_comm]
  exact hc.nextT_eq.symm.trans hp

theorem succ (h : step u = .next u') (hr : u.inRst = false) : s.Counted (k + 1) u' := by
  obtain ⟨hcfg, hin⟩ := step_inputs h
  obtain ⟨ht, hnow⟩ := step_counts h hr
  have hshift (j : Nat) : k + (j + 1) = k + 1 + j := by omega
  exact
    { cfg_eq := hcfg.trans hc.cfg_eq
      now_us_eq := hnow.trans hc.nextNow_eq
      t_eq := ht.trans hc.nextT_eq
      rstAt_eq := fun j => by rw [(hin j).1, hc.rstAt_eq, hshift]
      swAt_eq := fun j => by rw [(hin j).2, hc.swAt_eq, hshift] }

end State.Counted

/-- The induction over runs without reset: where each step completes and carries on what holds at the start, the run completes and
that holds at its end. -/
theorem exists_run {k : Nat} (P : Nat → State → Prop) (ht : s.t < s.cfg.slot) (hn : s.NoResetFor k) (hstart : P 0 s)
    (hstep : ∀ i u, i < k → s.Counted i u → u.inRst = false → P i u → ∃ u', step u = .next u' ∧ P (i + 1) u') :
    ∃ u, runs k s = .next u ∧ s.Counted k u ∧ P k u := by
  induction k with
  | zero => exact ⟨s, runs_zero s, .zero ht, hstart⟩
  | succ k ih =>
    obtain ⟨u, hrun, hc, hP⟩ := ih (fun j hj => hn j (by omega)) (fun i u hi => hstep i u (by omega))
    have hr := hc.inRst_eq_false hn (Nat.lt_succ_self k)
    obtain ⟨u', hu', hP'⟩ := hstep k u (Nat.lt_succ_self k) hc hr hP
    exact ⟨u', by rw [runs_snoc, hrun]; exact hu', hc.succ hu' hr, hP'⟩

/-- Settles O54: in a block every step completes, and a non-reset step counts one cycle. -/
theorem runsCountCycles : Obligations.RunsCountCycles := by
  intro k s hb ht hn
  obtain ⟨u, hrun, hc, -⟩ := exists_run (fun _ _ => True) ht hn trivial fun i u _ hc _ _ => by
    obtain ⟨u', hu'⟩ := step_completes (hc.cfg_eq ▸ hb)
    exact ⟨u', hu', trivial⟩
  exact ⟨u, hrun, hc.now_us_eq, hc.t_eq⟩

/-! ## The blank tick of a transition (R90, R108) -/

/-- Until the next poll a run goes through in every legal configuration, keeps the blank flag and the timestamp, and shows its
outputs (R103). -/
theorem exists_run_within_tick {k : Nat} (h : s.cfg.refusal = none) (hk : s.t + k < s.cfg.slot) (hn : s.NoResetFor k)
    (hout : s.OutputsShown) : ∃ u, runs k s = .next u ∧ s.Counted k u ∧ u.blank = s.blank ∧ u.last_ts = s.last_ts ∧
      u.OutputsShown := by
  refine exists_run (fun _ u => u.blank = s.blank ∧ u.last_ts = s.last_ts ∧ u.OutputsShown) (by omega) hn ⟨rfl, rfl, hout⟩
    fun i u hi hc hr ⟨hblank, hts, _⟩ => ?_
  have hp : u.nextT ≠ 0 := by
    rw [hc.nextT_eq, Nat.mod_eq_of_lt (by omega)]
    omega
  exact ⟨_, step_count (hc.cfg_eq ▸ h) hr hp, hblank, hts, rfl⟩

theorem State.OutputsShown.dark (hout : s.OutputsShown) (hb : s.blank = true) : s.warm_o = false ∧ s.cool_o = false :=
  Prod.mk.inj (hout.trans (State.out_of_blank hb))

/-- After a run of whole cycles from a recorded timestamp the elapsed time is their number, as long as it does not wrap. -/
theorem State.Counted.elapsed_of_recorded {k : Nat} (hc : s.Counted k u) (hts : u.last_ts = s.last_ts)
    (hrec : s.last_ts = s.now_us) (hk : k + 1 < 2 ^ 32) : u.elapsed.toNat = k + 1 := by
  have he : u.elapsed = BitVec.ofNat 32 (k + 1) := by
    rw [State.elapsed, hc.nextNow_eq, hts, hrec]
    exact add_sub_cancel_left _ _
  rw [he, BitVec.toNat_ofNat, Nat.mod_eq_of_lt hk]

/-- Settles O57: the transition's tick is blank until its last cycle, from which the next poll sees the timestamp SLOT cycles old. -/
theorem transitionBlanksOneTick : Obligations.TransitionBlanksOneTick := by
  intro s h hr hp hchg hn
  have hslot := Config.slot_ge_two h
  have hmax := Config.interval_add_slot_le h
  have hstep := step_transition h hr hp hchg
  obtain ⟨s1, hs1⟩ : ∃ s1, s1 = (s.recordSwitch.transition s.tgt).count.drive false false := ⟨_, rfl⟩
  rw [← hs1] at hstep
  have hcfg : s1.cfg = s.cfg := (step_inputs hstep).1
  have ht : s1.t = 0 := (step_counts hstep hr).1.trans hp
  have hrec : s1.last_ts = s1.now_us := by rw [hs1]; rfl
  have hblank : s1.blank = true := by rw [hs1]; rfl
  have htick : ∀ k, k < s.cfg.slot → ∃ u, runs k s1 = .next u ∧ s1.Counted k u ∧ u.blank = s1.blank ∧
      u.last_ts = s1.last_ts ∧ u.OutputsShown := by
    intro k hk
    have hn1 : s1.NoResetFor k := noResetFor_tail hstep fun j hj => hn j (by omega)
    exact exists_run_within_tick (hcfg ▸ h) (by rw [hcfg]; omega) hn1 (by rw [hs1]; rfl)
  refine ⟨s1, hstep, by rw [hs1]; rfl, by rw [hs1]; rfl, by rw [hs1]; rfl, hrec, fun k hk => ?dark, ?nextPoll⟩
  case dark =>
    obtain ⟨u, hrun, hc, hb, -, hout⟩ := htick k hk
    refine ⟨u, hrun, ?_, hout.dark (hb.trans hblank)⟩
    rw [hc.t_eq, ht, hcfg, Nat.zero_add, Nat.mod_eq_of_lt hk]
  case nextPoll =>
    obtain ⟨u, hrun, hc, -, hts, -⟩ := htick (s.cfg.slot - 1) (by omega)
    have hlast : s.cfg.slot - 1 + 1 = s.cfg.slot := by omega
    refine ⟨u, hrun, ?_, ?_⟩
    · rw [hc.nextT_eq, ht, hcfg, hlast, Nat.zero_add, Nat.mod_self]
    · rw [hc.elapsed_of_recorded hts hrec (by omega), hlast]

/-! ## The cadence of updates (R91, R106) -/

/-- U ticks are the fewest, but at least one, that take the interval. -/
theorem interval_le_ticks_iff {c : Config} (h : c.refusal = none) {q : Nat} (hq : 1 ≤ q) :
    c.interval ≤ q * c.slot ↔ updateTicks c ≤ q := by
  have hslot : 0 < c.slot := by have := Config.slot_ge_two h; omega
  have hceil : (c.interval + c.slot - 1) / c.slot ≤ q ↔ c.interval + c.slot - 1 < (q + 1) * c.slot := by
    rw [← Nat.lt_succ_iff, Nat.div_lt_iff_lt_mul hslot]
  rw [updateTicks, max_le_iff, hceil, Nat.succ_mul]
  omega

theorem updateTicks_mul_slot_lt {c : Config} (h : c.refusal = none) : updateTicks c * c.slot < 2 ^ 32 := by
  have hmax := Config.interval_add_slot_le h
  obtain hone | ⟨q, hq1, hq⟩ : updateTicks c = 1 ∨ ∃ q, 1 ≤ q ∧ updateTicks c = q + 1 := by
    have : 1 ≤ updateTicks c := le_max_left _ _
    by_cases hone : updateTicks c = 1
    · exact .inl hone
    · exact .inr ⟨updateTicks c - 1, by omega, by omega⟩
  · rw [hone]; omega
  · have hshort : ¬ c.interval ≤ q * c.slot := by rw [interval_le_ticks_iff h hq1]; omega
    rw [hq, Nat.succ_mul]
    omega

/-- A step without transition keeps the mode. -/
theorem step_mode_of_no_transition (h : step s = .next s') (hr : s.inRst = false) (hsame : s.nextT = 0 → s.tgt = s.mode) :
    s'.mode = s.mode := by
  by_contra hne
  obtain ⟨hp, hchg, -⟩ := (registersChangeOnlyWhereWritten s s' h hr).1 hne
  exact hchg (hsame hp)

/-- From a recorded timestamp the polls before the U-th wait, so mode and timestamp are kept up to the j-th poll, j at most U. -/
theorem exists_run_to_poll {j : Nat} (hb : s.cfg.Block) (ht : s.t = 0) (hrec : s.last_ts = s.now_us)
    (hj : j ≤ updateTicks s.cfg) (hn : s.NoResetFor (j * s.cfg.slot)) (hpt : s.PollsTarget (j * s.cfg.slot) s.mode) :
    ∃ u, runs (j * s.cfg.slot - 1) s = .next u ∧ s.Counted (j * s.cfg.slot - 1) u ∧ u.mode = s.mode ∧
      u.last_ts = s.last_ts := by
  have hslot := Config.slot_ge_two hb.1
  have h32 : j * s.cfg.slot < 2 ^ 32 := lt_of_le_of_lt (Nat.mul_le_mul_right _ hj) (updateTicks_mul_slot_lt hb.1)
  refine exists_run (fun _ u => u.mode = s.mode ∧ u.last_ts = s.last_ts) (by omega) (fun i hi => hn i (by omega)) ⟨rfl, rfl⟩
    fun i u hi hc hr ⟨hmode, hts⟩ => ?_
  obtain ⟨u', hu'⟩ := step_completes (hc.cfg_eq ▸ hb)
  have hsame (hp : u.nextT = 0) : u.tgt = u.mode := (hc.tgt_eq hpt (by omega) hp).trans hmode.symm
  have hwait (hp : u.nextT = 0) : u.elapsed.toNat < u.cfg.interval := by
    rw [hc.nextT_eq, ht, Nat.zero_add] at hp
    obtain ⟨q, hq⟩ := Nat.dvd_of_mod_eq_zero hp
    rw [Nat.mul_comm] at hq
    have hqj : q < j := Nat.lt_of_mul_lt_mul_right (a := s.cfg.slot) (by omega)
    have hq1 : 1 ≤ q := Nat.pos_of_ne_zero (by rintro rfl; omega)
    have hshort : ¬ s.cfg.interval ≤ q * s.cfg.slot := by rw [interval_le_ticks_iff hb.1 hq1]; omega
    rw [hc.elapsed_of_recorded hts hrec (by omega), hc.cfg_eq]
    omega
  refine ⟨u', hu', (step_mode_of_no_transition hu' hr hsame).trans hmode, ?_⟩
  obtain ⟨hp, hwhy, -⟩ | ⟨-, hkept⟩ := step_timestamp_cases hu' hr
  · obtain hchg | hdue := hwhy
    · exact absurd (hsame hp) hchg
    · exact absurd hdue (Nat.not_le.mpr (hwait hp))
  · exact hkept.trans hts

/-- Settles O58: the j-th poll sees j ticks elapsed, and j ticks take the interval exactly for j = U. -/
theorem updateCadence : Obligations.UpdateCadence := by
  intro j s hb ht hrec h1 hj hn hpt
  have hslot := Config.slot_ge_two hb.1
  have hpos : 0 < j * s.cfg.slot := Nat.mul_pos h1 (by omega)
  have hlast : j * s.cfg.slot - 1 + 1 = j * s.cfg.slot := by omega
  have h32 : j * s.cfg.slot < 2 ^ 32 := lt_of_le_of_lt (Nat.mul_le_mul_right _ hj) (updateTicks_mul_slot_lt hb.1)
  obtain ⟨u, hrun, hc, hmode, hts⟩ := exists_run_to_poll hb ht hrec hj hn hpt
  obtain ⟨u', hu'⟩ := step_completes (hc.cfg_eq ▸ hb)
  have hr : u.inRst = false := hc.inRst_eq_false hn (by omega)
  have hp : u.nextT = 0 := by rw [hc.nextT_eq, ht, hlast, Nat.zero_add, Nat.mul_mod_left]
  have hsame : u.tgt = u.mode := (hc.tgt_eq hpt (by omega) hp).trans hmode.symm
  have he : u.elapsed.toNat = j * s.cfg.slot := by rw [hc.elapsed_of_recorded hts hrec (by omega), hlast]
  have hdue : s.cfg.interval ≤ u.elapsed.toNat ↔ j = updateTicks s.cfg := by
    rw [he, interval_le_ticks_iff hb.1 h1]
    omega
  obtain ⟨htu', hnow⟩ := step_counts hu' hr
  refine ⟨u, u', hrun, hr, hp, hsame, he, hdue, hu', (step_inputs hu').1.trans hc.cfg_eq, htu'.trans hp,
    (step_mode_of_no_transition hu' hr fun _ => hsame).trans hmode, fun hU => ?recorded, fun hU => ?kept⟩
  case recorded =>
    obtain ⟨-, -, hts'⟩ | ⟨hwait, -⟩ := step_timestamp_cases hu' hr
    · exact hts'.trans hnow.symm
    · have hlt := (hwait hp).2
      rw [hc.cfg_eq] at hlt
      exact absurd (hdue.mpr hU) (Nat.not_le.mpr hlt)
  case kept =>
    obtain ⟨-, hwhy, -⟩ | ⟨-, hts'⟩ := step_timestamp_cases hu' hr
    · rw [hc.cfg_eq, hdue] at hwhy
      exact absurd hwhy (not_or.mpr ⟨not_not.mpr hsame, by omega⟩)
    · exact hts'.trans hts

/-! ## The phase a run reaches (R93, R94, R107) -/

theorem exec_xfUpd_phase_acc (h : exec .xfUpd s = .next s') : s'.phase_acc = s.advancedPhase := by
  obtain ⟨sq, -, rfl⟩ := withBlend_next h
  rfl

/-- Each advance reduces modulo M, which the next one does not see (R94). -/
theorem advanceAll_eq {c : Config} {p : Nat} (es : List Nat) (hp : p < c.modulus) :
    advanceAll c p es = (p + c.n * es.sum) % c.modulus := by
  induction es generalizing p with
  | nil => exact (Nat.mod_eq_of_lt hp).symm
  | cons e es ih =>
    have hnext : (p + c.n * e) % c.modulus < c.modulus := Nat.mod_lt _ (Nat.zero_lt_of_lt hp)
    calc advanceAll c p (e :: es)
        = ((p + c.n * e) % c.modulus + c.n * es.sum) % c.modulus := ih hnext
      _ = (p + c.n * (e :: es).sum) % c.modulus := by
          rw [Nat.mod_add_mod, List.sum_cons, Nat.mul_add, Nat.add_assoc]

/-- An advance by a whole PERIOD_US adds M, so it brings the phase back (R107). -/
theorem add_period_mod {c : Config} {p : Nat} (hp : p < c.modulus) : (p + c.n * c.periodUs) % c.modulus = p := by
  rw [show c.n * c.periodUs = c.modulus from rfl, Nat.add_mod_right, Nat.mod_eq_of_lt hp]

/-- A non-reset Crossfade step without transition on the grid: an update advances the phase by the elapsed time, which starts over,
and any other step keeps the phase while the elapsed time grows. -/
theorem step_crossfade_cases (hg : s.OnGrid) (h : step s = .next s') (hr : s.inRst = false) (hm : s.mode = .crossfade)
    (htgt : s.nextT = 0 → s.tgt = .crossfade) :
    ((s.nextT = 0 ∧ s.cfg.interval ≤ s.elapsed.toNat) ∧ s'.phase_acc = s.advancedPhase ∧ s'.elapsed.toNat = 1) ∨
    ((s.nextT = 0 → s.elapsed.toNat < s.cfg.interval) ∧ s'.phase_acc = s.phase_acc ∧
      s'.elapsed.toNat = s.elapsed.toNat + 1) := by
  have helapsed := hg.step_elapsed_cases h hr
  obtain ⟨-, s1, hedge, rfl⟩ := step_next h
  obtain ⟨hp, hwhy, he⟩ | ⟨hwait, he⟩ := helapsed
  case inl =>
    have hsame : s.tgt = s.mode := (htgt hp).trans hm.symm
    have hdue : s.cfg.interval ≤ s.elapsed.toNat := hwhy.resolve_left (not_not.mpr hsame)
    refine .inl ⟨⟨hp, hdue⟩, ?_, he⟩
    cases hedge with
    | reset hrst => rw [hr] at hrst; cases hrst
    | count _ hcount => exact absurd hp hcount
    | poll _ _ s2 ht =>
      cases ht with
      | transition hchg => exact absurd hsame hchg
      | updateCrossfade => rfl
      | updateAllOn _ _ hao => rw [hm] at hao; cases hao
      | holdCrossfade _ hlt | holdAllOn _ hlt => exact absurd hdue (Nat.not_le.mpr hlt)
  case inr =>
    refine .inr ⟨hwait, ?_, he⟩
    cases hedge with
    | reset hrst => rw [hr] at hrst; cases hrst
    | count => rfl
    | poll _ hp s2 ht =>
      cases ht with
      | transition hchg => exact absurd ((htgt hp).trans hm.symm) hchg
      | updateCrossfade _ hdue => exact absurd hdue (Nat.not_le.mpr (hwait hp))
      | updateAllOn | holdCrossfade | holdAllOn => rfl

/-- Update or not, a Crossfade step moves the phase the next update would reach by N (R94). -/
theorem step_advancedPhase (hg : s.OnGrid) (h : step s = .next s') (hr : s.inRst = false) (hm : s.mode = .crossfade)
    (htgt : s.nextT = 0 → s.tgt = .crossfade) : s'.advancedPhase = (s.advancedPhase + s.cfg.n) % s.cfg.modulus := by
  have hcfg : s'.cfg = s.cfg := (step_inputs h).1
  obtain ⟨-, hphase, he⟩ | ⟨-, hphase, he⟩ := step_crossfade_cases hg h hr hm htgt
  · rw [State.advancedPhase, hcfg, hphase, he, Nat.mul_one]
  · rw [State.advancedPhase, hcfg, hphase, he, State.advancedPhase, Nat.mod_add_mod, Nat.mul_succ, Nat.add_assoc]

/-- What is kept along a Crossfade run: its next update is an advance by all cycles since the timestamp the run began with. -/
structure State.PhaseAfter (s : State) (k : Nat) (u : State) : Prop where
  onGrid : u.OnGrid
  crossfade : u.mode = .crossfade
  advancedPhase_eq : u.advancedPhase = (s.phase_acc + s.cfg.n * (s.elapsed.toNat + k)) % s.cfg.modulus

theorem State.PhaseAfter.succ {k : Nat} (hph : s.PhaseAfter k u) (hcfg : u.cfg = s.cfg) (h : step u = .next u')
    (hr : u.inRst = false) (htgt : u.nextT = 0 → u.tgt = .crossfade) : s.PhaseAfter (k + 1) u' where
  onGrid := step_onGrid hph.onGrid h
  crossfade := (step_mode_of_no_transition h hr fun hp => (htgt hp).trans hph.crossfade.symm).trans hph.crossfade
  advancedPhase_eq := by
    rw [step_advancedPhase hph.onGrid h hr hph.crossfade htgt, hph.advancedPhase_eq, hcfg, Nat.mod_add_mod, ← Nat.add_assoc,
      Nat.mul_succ, Nat.add_assoc]

/-- A Crossfade run of k steps and the step after it, without reset and transition. -/
theorem exists_crossfade_run {k : Nat} (hb : s.cfg.Block) (hg : s.OnGrid) (hm : s.mode = .crossfade)
    (hn : s.NoResetFor (k + 1)) (hpt : s.PollsTarget (k + 1) .crossfade) :
    ∃ s1 s2, runs k s = .next s1 ∧ step s1 = .next s2 ∧ s2.mode = .crossfade ∧ s.Counted (k + 1) s2 ∧
      (s1.nextT = 0 → s.cfg.interval ≤ s1.elapsed.toNat →
        s2.phase_acc = (s.phase_acc + s.cfg.n * (s.elapsed.toNat + k)) % s.cfg.modulus) ∧
      (s1.nextT ≠ 0 ∨ s1.elapsed.toNat < s.cfg.interval → s2.phase_acc = s1.phase_acc) := by
  obtain ⟨s1, hrun, hc, hph⟩ := exists_run (k := k) s.PhaseAfter hg.t_in_tick (fun j hj => hn j (by omega)) ⟨hg, hm, rfl⟩
    fun i u hi hc hr hph => by
      obtain ⟨u', hu'⟩ := step_completes (hc.cfg_eq ▸ hb)
      exact ⟨u', hu', hph.succ hc.cfg_eq hu' hr (hc.tgt_eq hpt (by omega))⟩
  obtain ⟨s2, hs2⟩ := step_completes (hc.cfg_eq ▸ hb)
  have hr : s1.inRst = false := hc.inRst_eq_false hn (Nat.lt_succ_self k)
  have htgt : s1.nextT = 0 → s1.tgt = .crossfade := hc.tgt_eq hpt (Nat.lt_succ_self k)
  have hcases := step_crossfade_cases hph.onGrid hs2 hr hph.crossfade htgt
  rw [hc.cfg_eq, hph.advancedPhase_eq] at hcases
  refine ⟨s1, s2, hrun, hs2, (hph.succ hc.cfg_eq hs2 hr htgt).crossfade, hc.succ hs2 hr, fun hp hdue => ?update,
    fun hother => ?other⟩
  case update =>
    obtain ⟨-, hphase, -⟩ | ⟨hwait, -⟩ := hcases
    · exact hphase
    · exact absurd hdue (Nat.not_le.mpr (hwait hp))
  case other =>
    obtain ⟨⟨hp, hdue⟩, -⟩ | ⟨-, hphase, -⟩ := hcases
    · exact absurd hother (not_or.mpr ⟨not_not.mpr hp, Nat.not_lt.mpr hdue⟩)
    · exact hphase

/-- A state with the registers of `RESET_STATE` begins a Crossfade run on the grid with phase 0 and elapsed time 0. -/
theorem State.SameRegisters.of_resetFor {c : Config} (h : s.SameRegisters (State.resetFor c)) (hc : c.refusal = none) :
    s.cfg = c ∧ s.OnGrid ∧ s.mode = .crossfade ∧ s.phase_acc = 0 ∧ s.elapsed = 0 ∧ s.now_us = c.resetNowUs := by
  have hreset : (State.resetFor c).SameRegisters s := Eq.symm h
  obtain ⟨ins, n, rfl⟩ := hreset.exists_inputs
  exact ⟨rfl, { State.OnGrid.of_resetFor hc with }, rfl, rfl, State.resetFor_elapsed c, rfl⟩

/-- The timebase after reset counts the steps from the first, which enters cycle 0 (70_reset_and_hazards.md R154). -/
theorem resetNowUs_add (c : Config) (k : Nat) : c.resetNowUs + BitVec.ofNat 32 (k + 1) = BitVec.ofNat 32 k := by
  have hwrap : c.resetNowUs + 1#32 = 0#32 := by
    show 0xFFFFFFFF#32 + 1#32 = 0#32
    decide
  rw [Nat.add_comm, BitVec.ofNat_add, ← BitVec.add_assoc, hwrap, BitVec.zero_add]

/-- Settles O25: one update, advances in a row, and a Crossfade run from the grid and from `RESET_STATE`, where p and e are 0. -/
theorem phaseAdvanceIsExact : Obligations.PhaseAdvanceIsExact := by
  refine ⟨fun s s' h => ⟨exec_xfUpd_phase_acc h, exec_xfUpd_phase_acc h⟩,
    fun c p es hp => ⟨advanceAll_eq es hp, fun hsum => ?period⟩, ?run, ?fromReset⟩
  case period => rw [advanceAll_eq es hp, hsum, add_period_mod hp]
  case run =>
    intro k s hb hg hm hp hn hpt
    obtain ⟨s1, s2, hrun, hstep, hmode, -, hupdate, hother⟩ := exists_crossfade_run hb hg hm hn hpt
    refine ⟨s1, s2, hrun, hstep, hmode, fun hpoll hdue => ⟨hupdate hpoll hdue, fun hperiod => ?_⟩, hother⟩
    rw [hupdate hpoll hdue, hperiod, add_period_mod hp]
  case fromReset =>
    intro k c s hb hsame hn hpt
    obtain ⟨rfl, hg, hm, hphase, he, hnow⟩ := hsame.of_resetFor hb.1
    obtain ⟨s1, s2, hrun, hstep, -, hc, hupdate, -⟩ := exists_crossfade_run hb hg hm hn hpt
    refine ⟨s1, s2, hrun, hstep, by rw [hc.now_us_eq, hnow, resetNowUs_add], fun hpoll hdue => ?_⟩
    rw [hupdate hpoll hdue, hphase, he, Nat.zero_add]
    exact congrArg (fun e => s.cfg.n * e % s.cfg.modulus) (Nat.zero_add k)

end Machine

end Sys2Proof
end

-- ==== Proofs of the family 42_pulse_scheduler.md ====
section
/-! PROOFS of 42_pulse_scheduler.md: the duty-cycle calculator (R112 to R118, R127 to R129), the cycle operations (R122 to R126),
the output function (R119) with its dead time (R121), and the waveform of a tick (R120, R130, R131). The calculator's claims rest on
what each of its functions is and on its monotonicity; the output claims rest on when each channel is on, said once as an
equivalence, and the waveform on one explicit state k cycles on in a tick. -/

namespace Sys2Proof

open Machine

/-! ## The elaborated values as the integers given (00_scope.md R6, R8) -/

section
variable {c : Config} (h : c.refusal = none)
include h

theorem Config.cast_h : (c.h : Int) = c.halfPeriodUs := by
  have := (Config.legal h).halfPeriod_pos
  unfold Config.h
  omega

theorem Config.cast_maxRawN : (c.maxRawN : Int) = c.maxRaw := by
  have := (Config.legal h).maxRaw_pos
  unfold Config.maxRawN
  omega

theorem Config.cast_minRatio : (c.minRatio : Int) = c.minRatioQ16 := Int.toNat_of_nonneg (Config.legal h).minRatio_mem.1

theorem Config.cast_maxRatio : (c.maxRatio : Int) = c.maxRatioQ16 := Int.toNat_of_nonneg (Config.legal h).maxRatio_mem.1

theorem Config.cast_coolFactor : (c.coolFactor : Int) = c.coolFactorQ16 :=
  Int.toNat_of_nonneg (Config.legal h).coolFactor_mem.1

end

theorem cast_warmU {sq : Int} (h : -16384 ≤ sq) : (warmU sq : Int) = 16384 + sq := Int.toNat_of_nonneg (by omega)

theorem cast_coolU {sq : Int} (h : sq ≤ 16384) : (coolU sq : Int) = 16384 - sq := Int.toNat_of_nonneg (by omega)

/-- The mirrored blend value swaps the channels' operands (R129). -/
theorem coolU_neg (sq : Int) : coolU (-sq) = warmU sq := by
  unfold coolU warmU
  rw [sub_neg_eq_add]

/-! ## The linear ratios (R112, R113) -/

theorem Config.lin_le (c : Config) (u : Nat) : c.lin u ≤ 65536 := Nat.min_le_right _ _

theorem Config.lin_mono (c : Config) {u v : Nat} (h : u ≤ v) : c.lin u ≤ c.lin v :=
  min_le_min_right _ (Nat.add_le_add_left (Nat.div_le_div_right (Nat.mul_le_mul_left _ h)) _)

theorem Config.cast_lin {c : Config} (h : c.refusal = none) (u : Nat) :
    (c.lin u : Int) = min (c.minRatioQ16 + c.maxRatioQ16 * u / 32768) 65536 := by
  rw [← Config.cast_minRatio h, ← Config.cast_maxRatio h]
  unfold Config.lin
  push_cast
  rfl

/-- Settles O17: each ratio is R112's formula of its operand, which is 16384 + s_q or 16384 - s_q. -/
theorem linearRatiosFollowParameters : Obligations.LinearRatiosFollowParameters := by
  intro c sq h hlow hhigh
  refine ⟨?_, ?_, c.lin_le _, c.lin_le _⟩
  · rw [Config.cast_lin h, cast_warmU hlow]
  · rw [Config.cast_lin h, cast_coolU hhigh]

theorem default_lin (u : Nat) : Config.default.lin u = min (3277 + 64881 * u / 32768) 65536 := rfl

/-- Settles O18: 31444 is the first u with (64881 u) div 32768 at least 65536 - 3277; and u / 32768 of MAX_RATIO_Q16 is at most all
of it. -/
theorem linearClampThreshold : Obligations.LinearClampThreshold := by
  refine ⟨fun u hu => ?defaults, fun c u hsum hu => ?inert⟩
  case defaults =>
    rw [default_lin]
    omega
  case inert =>
    have hpart : c.maxRatio * u / 32768 ≤ c.maxRatio := by
      calc c.maxRatio * u / 32768
          ≤ c.maxRatio * 32768 / 32768 := Nat.div_le_div_right (Nat.mul_le_mul_left _ hu)
        _ = c.maxRatio := Nat.mul_div_cancel _ (by decide)
    exact Nat.min_eq_left (by omega)

/-! ## Gamma correction (R114) -/

/-- The square root is the only number between whose square and the next one n lies. -/
theorem isqrt_eq_iff {n r : Nat} : isqrt n = r ↔ r * r ≤ n ∧ n < (r + 1) * (r + 1) where
  mp := fun h => h ▸ isqrt_spec n
  mpr := fun ⟨hle, hlt⟩ => by
    have hr : r ≤ isqrt n := (le_isqrt_iff r n).mpr hle
    have hr' : ¬ r + 1 ≤ isqrt n := fun h => absurd ((le_isqrt_iff _ _).mp h) (Nat.not_le.mpr hlt)
    omega

theorem gamma_spec (l : Nat) : gamma l * gamma l ≤ l * l * l / 65536 ∧ l * l * l / 65536 < (gamma l + 1) * (gamma l + 1) :=
  isqrt_spec _

theorem gamma_mono {a b : Nat} (h : a ≤ b) : gamma a ≤ gamma b :=
  isqrt_mono (Nat.div_le_div_right (Nat.mul_le_mul (Nat.mul_le_mul h h) h))

theorem gamma_full : gamma 65536 = 65536 := isqrt_eq_iff.mpr (by norm_num)

theorem gamma_eq_zero {l : Nat} (h : l ≤ 40) : gamma l = 0 :=
  Nat.le_zero.mp ((gamma_mono h).trans_eq (isqrt_eq_iff.mpr (by norm_num)))

theorem gamma_le {l : Nat} (h : l ≤ 65536) : gamma l ≤ 65536 := (gamma_mono h).trans_eq gamma_full

/-- The square of R114's real value is L^3 / 65536. -/
theorem threeHalvesPower_sq (l : Nat) :
    ((65536 : ℝ) * ((l : ℝ) / 65536) ^ ((3 : ℝ) / 2)) ^ 2 = ((l * l * l : Nat) : ℝ) / 65536 := by
  have hl : (0 : ℝ) ≤ (l : ℝ) / 65536 := by positivity
  have hpow : (((l : ℝ) / 65536) ^ ((3 : ℝ) / 2)) ^ 2 = ((l : ℝ) / 65536) ^ 3 := by
    rw [← Real.rpow_mul_natCast hl, ← Real.rpow_natCast]
    norm_num
  rw [mul_pow, hpow]
  push_cast
  ring

/-- The integer square root of the quotient is the floor of the real root: compare the squares (00_scope.md R10). -/
theorem gamma_eq_floor (l : Nat) : (gamma l : Int) = ⌊(65536 : ℝ) * ((l : ℝ) / 65536) ^ ((3 : ℝ) / 2)⌋ := by
  obtain ⟨hle, hlt⟩ := gamma_spec l
  rw [Nat.le_div_iff_mul_le (by decide)] at hle
  rw [Nat.div_lt_iff_lt_mul (by decide)] at hlt
  have hsq := threeHalvesPower_sq l
  have hx : (0 : ℝ) ≤ 65536 * ((l : ℝ) / 65536) ^ ((3 : ℝ) / 2) := by positivity
  symm
  rw [Int.floor_eq_iff]
  constructor
  · refine le_of_pow_le_pow_left₀ two_ne_zero hx ?_
    rw [hsq, le_div_iff₀ (by norm_num)]
    exact_mod_cast (sq (gamma l)).symm ▸ hle
  · refine lt_of_pow_lt_pow_left₀ 2 (by positivity) ?_
    rw [hsq, div_lt_iff₀ (by norm_num)]
    exact_mod_cast (sq (gamma l + 1)).symm ▸ hlt

/-- Settles O19: the floor and the root by comparing squares; the entries are roots, and gamma is 0 up to 40 because it is at 40. -/
theorem gammaIsFloorOfThreeHalvesPower : Obligations.GammaIsFloorOfThreeHalvesPower :=
  ⟨fun l _ => gamma_eq_floor l, gamma_spec, fun _ => gamma_eq_zero, isqrt_eq_iff.mpr (by norm_num),
    isqrt_eq_iff.mpr (by norm_num), gamma_full, fun _ _ => gamma_mono⟩

/-! ## The gamma-corrected ratios (R115) -/

theorem Config.warmRatio_le (c : Config) (sq : Int) : c.warmRatio sq ≤ 65536 := gamma_le (c.lin_le _)

/-- A factor of at most 1.0 does not raise a ratio. -/
theorem mul_factor_le {g f : Nat} (h : f ≤ 65536) : g * f / 65536 ≤ g :=
  Nat.div_le_of_le_mul (by rw [Nat.mul_comm 65536]; exact Nat.mul_le_mul_left _ h)

theorem Config.coolRatio_le {c : Config} (h : c.refusal = none) (sq : Int) : c.coolRatio sq ≤ 65536 :=
  (mul_factor_le (Config.coolFactor_le h)).trans (gamma_le (c.lin_le _))

theorem Config.warmRatio_mono (c : Config) {sq sq' : Int} (h : sq ≤ sq') : c.warmRatio sq ≤ c.warmRatio sq' :=
  gamma_mono (c.lin_mono (Int.toNat_le_toNat (by omega)))

theorem Config.coolRatio_anti (c : Config) {sq sq' : Int} (h : sq ≤ sq') : c.coolRatio sq' ≤ c.coolRatio sq :=
  Nat.div_le_div_right (Nat.mul_le_mul_right _ (gamma_mono (c.lin_mono (Int.toNat_le_toNat (by omega)))))

/-- At the zero crossing the cool ratio is the warm one times the cool factor (R128). -/
theorem Config.coolRatio_zero (c : Config) : c.coolRatio 0 = c.warmRatio 0 * c.coolFactor / 65536 := rfl

/-! ## The durations (R116) -/

theorem Config.rawDur_mono (c : Config) {r r' d d' : Nat} (hr : r ≤ r') (hd : d ≤ d') : c.rawDur r d ≤ c.rawDur r' d' :=
  Nat.div_le_div_right (Nat.mul_le_mul (Nat.mul_le_mul_left _ hr) hd)

theorem Config.dur_mono (c : Config) {r r' d d' : Nat} (hr : r ≤ r') (hd : d ≤ d') : c.dur r d ≤ c.dur r' d' :=
  min_le_min_right _ (c.rawDur_mono hr hd)

theorem Config.dur_zero (c : Config) (r : Nat) : c.dur r 0 = 0 := by
  unfold Config.dur Config.rawDur
  rw [Nat.mul_zero, Nat.zero_div, Nat.zero_min]

theorem Config.cast_dur {c : Config} (h : c.refusal = none) (r d : Nat) :
    (c.dur r d : Int) = min (c.halfPeriodUs * r * d / (65536 * c.maxRaw)) (c.halfPeriodUs - 1) := by
  rw [← Config.cast_h h, ← Config.cast_maxRawN h]
  unfold Config.dur Config.rawDur
  push_cast [Nat.cast_sub (show 1 ≤ c.h from Config.h_pos h)]
  rfl

/-- The unclamped duration reaches H exactly where ratio and dimmer together reach full scale. -/
theorem Config.h_le_rawDur_iff {c : Config} (h : c.refusal = none) (r d : Nat) :
    c.h ≤ c.rawDur r d ↔ 65536 * c.maxRawN ≤ r * d := by
  have hscale : 0 < 65536 * c.maxRawN := Nat.mul_pos (by decide) (Config.maxRawN_pos h)
  rw [Config.rawDur, Nat.le_div_iff_mul_le hscale, Nat.mul_assoc, Nat.mul_le_mul_left_iff (Config.h_pos h)]

theorem Config.rawDur_full {c : Config} (h : c.refusal = none) : c.rawDur 65536 c.maxRawN = c.h := by
  have hscale : 0 < 65536 * c.maxRawN := Nat.mul_pos (by decide) (Config.maxRawN_pos h)
  rw [Config.rawDur, Nat.mul_assoc, Nat.mul_div_cancel _ hscale]

/-- A product of two bounded factors reaches the product of the bounds only where both factors do. -/
theorem mul_full_iff {r d R D : Nat} (hr : r ≤ R) (hd : d ≤ D) (hR : 0 < R) (hD : 0 < D) :
    R * D ≤ r * d ↔ r = R ∧ d = D where
  mp := fun h => by
    by_contra hne
    obtain hlt | hlt : r < R ∨ d < D := by omega
    · exact absurd h (Nat.not_le.mpr (Nat.mul_lt_mul_of_lt_of_le hlt hd hD))
    · exact absurd h (Nat.not_le.mpr (Nat.mul_lt_mul_of_le_of_lt hr hlt hR))
  mpr := fun ⟨hr, hd⟩ => by rw [hr, hd]

/-- The clamp changes the values from H on. -/
theorem Config.dur_ne_rawDur_iff {c : Config} (h : c.refusal = none) (r d : Nat) :
    c.dur r d ≠ c.rawDur r d ↔ c.h ≤ c.rawDur r d := by
  have := Config.h_pos h
  unfold Config.dur
  omega

/-- Settles O22: the clamp acts from H on, and the unclamped value is that large only at full ratio and full dimmer. -/
theorem durationClampOnlyAtFullScale : Obligations.DurationClampOnlyAtFullScale := by
  intro c h
  refine ⟨fun sq => ⟨c.warmRatio_le sq, Config.coolRatio_le h sq⟩, fun r d hr hd => ?_, Config.rawDur_full h⟩
  rw [Config.dur_ne_rawDur_iff h, Config.h_le_rawDur_iff h, mul_full_iff hr hd (by decide) (Config.maxRawN_pos h)]

/-! ## The plan (R118, R127 to R129) -/

/-- Settles O20: the witnesses are the model's linear ratios and their roots, read as integers. -/
theorem planFollowsPseudocode : Obligations.PlanFollowsPseudocode := by
  intro c sq d h hlow hhigh _
  obtain ⟨hwLin, hcLin, -⟩ := linearRatiosFollowParameters c sq h hlow hhigh
  obtain ⟨hgw, hgw'⟩ := gamma_spec (c.lin (warmU sq))
  obtain ⟨hgc, hgc'⟩ := gamma_spec (c.lin (coolU sq))
  refine ⟨_, _, gamma (c.lin (warmU sq)), gamma (c.lin (coolU sq)), hwLin, hcLin, hgw, hgw', hgc, hgc', ?warm, ?cool⟩
  case warm => exact Config.cast_dur h _ d
  case cool =>
    have hratio : (c.coolRatio sq : Int) = gamma (c.lin (coolU sq)) * c.coolFactorQ16 / 65536 := by
      rw [← Config.cast_coolFactor h]
      unfold Config.coolRatio
      push_cast
      rfl
    rw [← hratio]
    exact Config.cast_dur h _ d

/-- Settles O21: a duration is at most H - 1, which is 0 for H = 1. -/
theorem planDurationBounds : Obligations.PlanDurationBounds := by
  intro c sq d h
  have hpos := Config.h_pos h
  obtain ⟨hw, hc⟩ := c.plan_le sq d
  refine ⟨by omega, by omega, ?dark, fun h1 => ?shortest⟩
  case dark => rw [Config.plan, Config.dur_zero, Config.dur_zero]
  case shortest =>
    have hzero (r : Nat) : c.dur r d = 0 := by
      have := c.dur_le r d
      omega
    rw [Config.plan, hzero, hzero]

/-- Settles O24: a duration is monotone in ratio and dimmer, and the ratios in the blend value, the cool one downwards. -/
theorem planIsMonotone : Obligations.PlanIsMonotone := by
  intro c sq sq' d d' hsq hd
  exact ⟨c.dur_mono (c.warmRatio_mono hsq) le_rfl, c.dur_mono (c.coolRatio_anti hsq) le_rfl, c.dur_mono le_rfl hd,
    c.dur_mono le_rfl hd, by rw [coolU_neg]⟩

/-- The default ratios at the zero crossing: the root of 35717^3 div 65536, and 42598 / 65536 of it. -/
theorem default_ratios_zero : Config.default.warmRatio 0 = 26367 ∧ Config.default.coolRatio 0 = 17138 := by
  have hlin : Config.default.lin (warmU 0) = 35717 := by
    rw [default_lin, show warmU 0 = 16384 from rfl]
    norm_num
  have hwarm : Config.default.warmRatio 0 = 26367 := by
    rw [Config.warmRatio, hlin]
    exact isqrt_eq_iff.mpr (by norm_num)
  rw [Config.coolRatio_zero, hwarm]
  exact ⟨rfl, rfl⟩

/-- The default plan at the zero crossing, which the clamp leaves. -/
theorem default_plan_zero {d : Nat} (h : d ≤ 1023) :
    Config.default.plan 0 d = ⟨26367000 * d / 67043328, 17138000 * d / 67043328⟩ := by
  obtain ⟨hwarm, hcool⟩ := default_ratios_zero
  have hdur (r : Nat) : Config.default.dur r d = min (1000 * r * d / 67043328) 999 := rfl
  rw [Config.plan, hwarm, hcool, hdur, hdur, Nat.min_eq_left (by omega), Nat.min_eq_left (by omega)]

/-- Settles O23: the ratios differ by the cool factor alone. With the defaults the exact durations are 0.39 d and 0.26 d, more than
1 apart from d = 8 on; below that the list is what the floors give. -/
theorem zeroCrossingSymmetry : Obligations.ZeroCrossingSymmetry := by
  refine ⟨fun c h => ?legal, fun d hd => ?defaults⟩
  case legal =>
    have hle : c.coolRatio 0 ≤ c.warmRatio 0 := mul_factor_le (Config.coolFactor_le h)
    refine ⟨rfl, hle, fun hpos hfactor => ?_, fun d => c.dur_mono hle le_rfl⟩
    rw [Config.coolRatio_zero, Nat.div_lt_iff_lt_mul (by decide)]
    exact Nat.mul_lt_mul_of_pos_left hfactor hpos
  case defaults =>
    rw [default_plan_zero hd]
    by_cases h8 : d < 8
    · interval_cases d <;> decide
    · have hapart : 17138000 * d / 67043328 < 26367000 * d / 67043328 := by omega
      simp only [hapart.ne, false_iff]
      omega

namespace Machine

variable {s s' : State}

/-! ## The cycle operations (R122 to R126) -/

/-- Settles O31: a pulse operation's one write is its drive of the ports. -/
theorem pulseOperationsDriveOneChannel : Obligations.PulseOperationsDriveOneChannel := fun _ => ⟨rfl, rfl⟩

/-- Settles O32: neither operation of a block's remainder looks at the state, nor BLANK at its two bits. -/
theorem remainderAndBlankDriveNone : Obligations.RemainderAndBlankDriveNone := fun _ _ _ => ⟨rfl, rfl, rfl⟩

/-! ## When each channel is on (R119) -/

theorem State.out_warm_iff : s.out.1 = true ↔ s.blank = false ∧ s.t < s.cfg.h ∧ s.t < s.plan_w := by
  unfold State.out
  cases s.blank <;> by_cases hblock : s.t < s.cfg.h <;> simp [hblock]

theorem State.out_cool_iff : s.out.2 = true ↔ s.blank = false ∧ s.cfg.h ≤ s.t ∧ s.t - s.cfg.h < s.plan_c := by
  unfold State.out
  cases s.blank <;> by_cases hblock : s.t < s.cfg.h <;> simp [hblock, Nat.not_lt.mp]

section
variable (hout : s.OutputsShown)
include hout

theorem State.OutputsShown.warm_iff : s.warm_o = true ↔ s.blank = false ∧ s.t < s.cfg.h ∧ s.t < s.plan_w := by
  have hport : s.warm_o = s.out.1 := congrArg Prod.fst hout
  rw [hport, State.out_warm_iff]

theorem State.OutputsShown.cool_iff : s.cool_o = true ↔ s.blank = false ∧ s.cfg.h ≤ s.t ∧ s.t - s.cfg.h < s.plan_c := by
  have hport : s.cool_o = s.out.2 := congrArg Prod.snd hout
  rw [hport, State.out_cool_iff]

/-- The channels are on in different blocks (R121). -/
theorem State.OutputsShown.nonOverlap : s.NonOverlap := by
  rintro ⟨hw, hc⟩
  obtain ⟨-, hwarmBlock, -⟩ := hout.warm_iff.mp hw
  obtain ⟨-, hcoolBlock, -⟩ := hout.cool_iff.mp hc
  omega

end

theorem step_outputsShown (h : step s = .next s') : s'.OutputsShown := by
  obtain ⟨-, s1, -, rfl⟩ := step_next h
  rfl

/-- Settles O44: the step's last act drives the output function of the state it reached. -/
theorem outputsShowTheStateReached : Obligations.OutputsShowTheStateReached := fun _ _ => step_outputsShown

/-! ## The dead time (R121) -/

/-- Before the last cycle of a tick a step goes on by one position, unless a reset blanks it. -/
theorem step_t_or_blank (h : step s = .next s') (ht : s.t + 1 < s.cfg.slot) : s'.t = s.t + 1 ∨ s'.blank = true := by
  cases hr : s.inRst with
  | true =>
    obtain rfl : s.resetRegisters.drive false false = s' := by simpa [step_reset (step_next h).1 hr] using h
    exact .inr rfl
  | false => exact .inl ((step_counts h hr).1.trans (nextT_of_lt ht))

/-- A pulse ends before the last cycle of its block, so the cycle after one of its cycles is still in that block. -/
theorem same_block_after_pulse (hi : s.Inv) (h : step s = .next s') (hlit : s'.blank = false) :
    (s.warm_o = true → s'.t < s'.cfg.h) ∧ (s.cool_o = true → s'.cfg.h ≤ s'.t) := by
  have hw := hi.plan_w_below_half
  have hc := hi.plan_c_below_half
  have hslot : s.cfg.slot = 2 * s.cfg.h := rfl
  have hnext (hlt : s.t + 1 < s.cfg.slot) : s'.t = s.t + 1 := (step_t_or_blank h hlt).resolve_right (by simp [hlit])
  rw [hi.outputs_shown.warm_iff, hi.outputs_shown.cool_iff, (step_inputs h).1]
  refine ⟨fun ⟨_, hblock, hpulse⟩ => ?warm, fun ⟨_, hblock, hpulse⟩ => ?cool⟩
  case warm | cool =>
    have := hnext (by omega)
    omega

/-- Both pulses are at most H - 1 long, so the last cycle of either block is in none. -/
theorem State.Inv.dark_at_block_end (hi : s.Inv) (hh : 0 < s.cfg.h) (ht : s.t = s.cfg.h - 1 ∨ s.t = 2 * s.cfg.h - 1) :
    s.warm_o = false ∧ s.cool_o = false := by
  have hw := hi.plan_w_below_half
  have hc := hi.plan_c_below_half
  rw [← Bool.not_eq_true, ← Bool.not_eq_true, hi.outputs_shown.warm_iff, hi.outputs_shown.cool_iff]
  omega

/-- Settles O53: a rising edge is in the channel's own block, and a cycle of the other's pulse is followed by one in the other's. -/
theorem outputsNeverOverlapAndKeepDeadTime : Obligations.OutputsNeverOverlapAndKeepDeadTime := by
  refine ⟨fun s s' h => (step_outputsShown h).nonOverlap,
    fun s s' hi h => ⟨fun _ hrise => Bool.eq_false_iff.mpr fun hcool => ?warmRises,
      fun _ hrise => Bool.eq_false_iff.mpr fun hwarm => ?coolRises⟩,
    fun s hh hi ht => hi.dark_at_block_end hh ht⟩
  case warmRises =>
    obtain ⟨hlit, hblock, -⟩ := (step_outputsShown h).warm_iff.mp hrise
    exact absurd ((same_block_after_pulse hi h hlit).2 hcool) (Nat.not_le.mpr hblock)
  case coolRises =>
    obtain ⟨hlit, hblock, -⟩ := (step_outputsShown h).cool_iff.mp hrise
    exact absurd ((same_block_after_pulse hi h hlit).1 hwarm) (Nat.not_lt.mpr hblock)

/-! ## Within a tick (R131) -/

/-- The state k cycles on in a tick: the counters, the inputs used up, and the outputs of the position reached. -/
def State.laterInTick (s : State) (k : Nat) : State :=
  { s with
    now_us := s.now_us + BitVec.ofNat 32 k, t := s.t + k, inputs := s.inputs.drop k, cycle := s.cycle + k
    warm_o := ({ s with t := s.t + k } : State).out.1, cool_o := ({ s with t := s.t + k } : State).out.2 }

theorem State.laterInTick_zero (hout : s.OutputsShown) : s.laterInTick 0 = s := by
  have hw : s.warm_o = s.out.1 := congrArg Prod.fst hout
  have hc : s.cool_o = s.out.2 := congrArg Prod.snd hout
  show ({ s with now_us := s.now_us + 0#32, warm_o := s.out.1, cool_o := s.out.2 } : State) = s
  rw [BitVec.add_zero, ← hw, ← hc]

theorem State.laterInTick_outputsShown (s : State) (k : Nat) : (s.laterInTick k).OutputsShown := rfl

/-- The input word k cycles on is the k-th of those to come now. -/
theorem State.laterInTick_inRst (s : State) (k : Nat) : (s.laterInTick k).inRst = s.rstAt k := by
  have hword : (s.laterInTick k).inWordAt 0 = s.inWordAt k := by
    unfold State.inWordAt State.laterInTick
    rw [List.getElem?_drop]
    rfl
  exact congrArg s.cfg.rstOf hword

/-- A non-poll step goes on to the next of these states (41_phase_mode.md R103). -/
theorem step_laterInTick {k : Nat} (h : s.cfg.refusal = none) (hk : s.t + (k + 1) < s.cfg.slot) (hr : s.rstAt k = false) :
    step (s.laterInTick k) = .next (s.laterInTick (k + 1)) := by
  have hbelow : (s.laterInTick k).t < s.cfg.slot := show s.t + k < s.cfg.slot by omega
  have hnotLast : (s.laterInTick k).t + 1 ≠ s.cfg.slot := show s.t + k + 1 ≠ s.cfg.slot by omega
  rw [nonPollStepOnlyCounts (s.laterInTick k) h hbelow ((s.laterInTick_inRst k).trans hr) hnotLast]
  have hnow : s.now_us + BitVec.ofNat 32 k + 1 = s.now_us + BitVec.ofNat 32 (k + 1) := by
    rw [BitVec.ofNat_add, BitVec.add_assoc]
    rfl
  have hinputs : (s.inputs.drop k).tail = s.inputs.drop (k + 1) := List.tail_drop
  unfold State.laterInTick
  simp only [hnow, hinputs]
  rfl

theorem runs_within_tick {k : Nat} (h : s.cfg.refusal = none) (hk : s.t + k < s.cfg.slot) (hn : s.NoResetFor k)
    (hout : s.OutputsShown) : runs k s = .next (s.laterInTick k) := by
  induction k with
  | zero => rw [runs_zero, State.laterInTick_zero hout]
  | succ k ih =>
    rw [runs_snoc, ih (by omega) fun j hj => hn j (by omega)]
    exact step_laterInTick h hk (hn k (Nat.lt_succ_self k))

/-- Settles O55: by induction, each of the k steps only counts. -/
theorem noCancellationWithinTick : Obligations.NoCancellationWithinTick := fun _ _ => runs_within_tick

/-! ## The waveform of a tick (R120, R130) -/

/-- The states of a tick's cycles, from the state of its first. -/
def State.tickStates (s : State) : List State := (List.range s.cfg.slot).map s.laterInTick

theorem State.tickStates_length (s : State) : s.tickStates.length = s.cfg.slot := by
  rw [State.tickStates, List.length_map, List.length_range]

theorem State.tickStates_getElem? {k : Nat} (hk : k < s.cfg.slot) : s.tickStates[k]? = some (s.laterInTick k) := by
  rw [State.tickStates, List.getElem?_map, List.getElem?_range hk]
  rfl

/-- As many cycles of a tick as a half-open interval of positions holds are in it. -/
theorem countP_tickStates {p : State → Bool} {a b : Nat} (hb : b ≤ s.cfg.slot)
    (hp : ∀ k, k < s.cfg.slot → (p (s.laterInTick k) = true ↔ a ≤ k ∧ k < b)) : s.tickStates.countP p = b - a := by
  have hset : ((List.range s.cfg.slot).filter (p ∘ s.laterInTick)).toFinset = Finset.Ico a b := by
    ext k
    rw [List.mem_toFinset, List.mem_filter, List.mem_range, Finset.mem_Ico]
    constructor
    · rintro ⟨hk, hon⟩
      exact (hp k hk).mp hon
    · intro hin
      have hk : k < s.cfg.slot := by omega
      exact ⟨hk, (hp k hk).mpr hin⟩
  rw [State.tickStates, List.countP_map, List.countP_eq_length_filter,
    ← List.toFinset_card_of_nodup (List.nodup_range.filter _), hset, Nat.card_Ico]

section
variable (ht : s.t = 0) (hlit : s.blank = false) (k : Nat)
include ht hlit

/-- In a lit tick warm is on in the first plan_w cycles (R120). -/
theorem State.laterInTick_warm_iff (hplan : s.plan_w ≤ s.cfg.h - 1) :
    (s.laterInTick k).warm_o = true ↔ k < s.plan_w := by
  have hpos : (s.laterInTick k).t = k := by show s.t + k = k; omega
  rw [(s.laterInTick_outputsShown k).warm_iff, hpos]
  show s.blank = false ∧ k < s.cfg.h ∧ k < s.plan_w ↔ _
  simp only [hlit, true_and]
  omega

/-- In a lit tick cool is on in the first plan_c cycles from H (R120). -/
theorem State.laterInTick_cool_iff :
    (s.laterInTick k).cool_o = true ↔ s.cfg.h ≤ k ∧ k < s.cfg.h + s.plan_c := by
  have hpos : (s.laterInTick k).t = k := by show s.t + k = k; omega
  rw [(s.laterInTick_outputsShown k).cool_iff, hpos]
  show s.blank = false ∧ s.cfg.h ≤ k ∧ k - s.cfg.h < s.plan_c ↔ _
  simp only [hlit, true_and]
  omega

end

/-- Settles O56: the states of the tick are those of O55, each showing its outputs. -/
theorem tickWaveformIsThePlan : Obligations.TickWaveformIsThePlan := by
  intro s h ht hout hw hc hn
  have hslot : s.cfg.slot = 2 * s.cfg.h := rfl
  refine ⟨s.tickStates, s.tickStates_length, fun k hk => ⟨_, State.tickStates_getElem? hk, ?run⟩, fun hblank => ?dark,
    fun hlit => ⟨fun k hk sk hsk => ?lit, ?warmCount, ?coolCount⟩⟩
  case run => exact runs_within_tick h (by omega) (fun j hj => hn j (by omega)) hout
  case dark =>
    intro sk hsk
    obtain ⟨k, -, rfl⟩ := List.mem_map.mp hsk
    exact (s.laterInTick_outputsShown k).dark hblank
  case lit =>
    obtain rfl : s.laterInTick k = sk := Option.some.inj ((State.tickStates_getElem? hk).symm.trans hsk)
    exact ⟨State.laterInTick_warm_iff ht hlit k hw, State.laterInTick_cool_iff ht hlit k⟩
  case warmCount =>
    rw [countP_tickStates (a := 0) (b := s.plan_w) (by omega), Nat.sub_zero]
    intro k _
    rw [State.laterInTick_warm_iff ht hlit k hw]
    omega
  case coolCount =>
    rw [countP_tickStates (a := s.cfg.h) (b := s.cfg.h + s.plan_c) (by omega), Nat.add_sub_cancel_left]
    exact fun k _ => State.laterInTick_cool_iff ht hlit k

end Machine

end Sys2Proof
end

-- ==== Proofs of the family 60_exceptions.md ====
section
/-! PROOFS of 60_exceptions.md: a block's steps never stop (R136), and a step is refused exactly for an illegal configuration (R137).
Refusals have one source: no operation is ever refused, so a step is refused for the reason elaboration names, and that reason is the
first of R137's table whose check succeeds. -/

namespace Sys2Proof

open Machine

/-! ## The reasons of elaboration (R137) -/

/-- The reasons in the order in which the model tries them (log 8). -/
def elaborationReasons : List Refusal :=
  [.CFG_TABLE_N, .CFG_CYCLE_PERIOD, .CFG_HALF_PERIOD, .CFG_UPDATE_INTERVAL, .CFG_DIMMER, .CFG_RATIO, .CFG_XFADE_LEVEL]

/-- The check elaboration makes for a reason. -/
def Config.fails (c : Config) : Refusal → Bool
  | .CFG_TABLE_N => c.badTableN
  | .CFG_CYCLE_PERIOD => c.badCyclePeriod
  | .CFG_HALF_PERIOD => c.badHalfPeriod
  | .CFG_UPDATE_INTERVAL => c.badUpdateInterval
  | .CFG_DIMMER => c.badDimmer
  | .CFG_RATIO => c.badRatio
  | .CFG_XFADE_LEVEL => c.badXfadeLevel
  | .notModelled _ => false

section
variable {c : Config} {r : Refusal}

theorem badRatioValue_iff (q : Int) : badRatioValue q = true ↔ q < 0 ∨ 65536 < q := by simp [badRatioValue]

/-- The checks decide the conditions of R137's table. -/
theorem Config.fails_iff : c.fails r = true ↔ c.MeetsCondition r := by
  cases r with
  | CFG_TABLE_N | CFG_CYCLE_PERIOD | CFG_HALF_PERIOD => exact decide_eq_true_iff
  | CFG_UPDATE_INTERVAL => simp [Config.fails, Config.badUpdateInterval, Config.MeetsCondition]
  | CFG_DIMMER => simp [Config.fails, Config.badDimmer, Config.MeetsCondition, or_assoc]
  | CFG_RATIO => simp [Config.fails, Config.badRatio, Config.MeetsCondition, badRatioValue_iff, or_assoc]
  | CFG_XFADE_LEVEL => simp [Config.fails, Config.badXfadeLevel, Config.MeetsCondition]
  | notModelled => simp [Config.fails, Config.MeetsCondition]

theorem find?_cons_eq_ite (p : Refusal → Bool) (r : Refusal) (rs : List Refusal) :
    (r :: rs).find? p = if p r = true then some r else rs.find? p := by
  rw [List.find?_cons]
  cases p r <;> rfl

/-- Elaboration names the first reason whose check succeeds. -/
theorem Config.refusal_eq_find (c : Config) : c.refusal = elaborationReasons.find? c.fails := by
  simp only [elaborationReasons, find?_cons_eq_ite]
  rfl

theorem Config.mem_elaborationReasons (h : c.fails r = true) : r ∈ elaborationReasons := by
  cases r with
  | notModelled => cases h
  | _ => decide

theorem Config.meetsCondition_of_refusal (h : c.refusal = some r) : c.MeetsCondition r := by
  rw [Config.refusal_eq_find] at h
  exact Config.fails_iff.mp (List.find?_some h)

theorem Config.exists_refusal_of_meetsCondition (h : c.MeetsCondition r) : ∃ r', c.refusal = some r' := by
  have hfails : c.fails r = true := Config.fails_iff.mpr h
  rw [← Option.isSome_iff_exists, Config.refusal_eq_find, List.find?_isSome]
  exact ⟨r, Config.mem_elaborationReasons hfails, hfails⟩

end

namespace Machine

/-! ## No operation is refused (30_encoding.md R73) -/

theorem withBlend_ne_refused (q : Except Fault Int) (f : Int → State) (r : Refusal) : withBlend q f ≠ .refused r := by
  cases q <;> nofun

theorem exec_ne_refused (i : Instr) (s : State) (r : Refusal) : exec i s ≠ .refused r := by
  cases i with
  | xfHold | xfUpd => exact withBlend_ne_refused _ _ r
  | trXf | trAo | aoHold | aoUpd | blank | wOn | wRem | cOn | cRem => nofun

theorem andThen_ne_refused {q : Result} {f : State → Result} {r : Refusal} (hq : q ≠ .refused r)
    (hf : ∀ s, f s ≠ .refused r) : andThen q f ≠ .refused r := by
  cases q with
  | next s => exact hf s
  | fault => nofun
  | refused => exact hq

theorem clockEdge_ne_refused (s : State) (r : Refusal) : clockEdge s ≠ .refused r := by
  unfold clockEdge
  split
  · exact exec_ne_refused _ _ r
  · split
    · exact andThen_ne_refused (exec_ne_refused _ _ r) fun _ => exec_ne_refused _ _ r
    · exact exec_ne_refused _ _ r

/-- Elaboration is the one source of refusals (00_scope.md R9). -/
theorem step_refused_iff {s : State} {r : Refusal} : step s = .refused r ↔ s.cfg.refusal = some r := by
  unfold step
  cases s.cfg.refusal with
  | none => simp [clockEdge_ne_refused]
  | some => simp

/-- Settles O36: resets, counts and polls complete, the ROM answering every index a poll forms. -/
theorem blockAlwaysSteps : Obligations.BlockAlwaysSteps := fun _ => step_completes

/-- Settles O37: the step is refused for the first reason whose check succeeds, and the checks decide R137's conditions. -/
theorem illegalConfigurationIsRefused : Obligations.IllegalConfigurationIsRefused := by
  refine fun s => ⟨fun r hstep => Config.meetsCondition_of_refusal (step_refused_iff.mp hstep), fun r hmeets => ?_⟩
  obtain ⟨r', hr'⟩ := Config.exists_refusal_of_meetsCondition hmeets
  exact ⟨r', step_refused_iff.mpr hr', Config.meetsCondition_of_refusal hr'⟩

end Machine

end Sys2Proof
end

-- ==== Proofs of the family 70_reset_and_hazards.md ====
section
/-! PROOFS of 70_reset_and_hazards.md: the reset state and its values (R151 to R153), the first tick after reset and the ways its poll
goes (R154, R155), and the state before the first reset (R157). The claims about the first tick follow from one fact: a state with the
registers of `RESET_STATE` polls next, at time 0. -/

namespace Sys2Proof

open Machine

/-- The reset level of `prev_sw`, read as a number, is XFADE_LEVEL itself (R152). -/
theorem Config.cast_resetPrevSw {c : Config} (h : c.refusal = none) : ((c.resetPrevSw.toNat : Nat) : Int) = c.xfadeLevel := by
  unfold Config.resetPrevSw
  obtain h0 | h1 := (Config.legal h).xfadeLevel_mem
  · simp [h0]
  · simp [h1]

namespace Machine

variable {a b s : State} {c : Config}

/-! ## The reset state (R151 to R153) -/

/-- Settles O39: by the definition of `RESET_STATE`, with XFADE_LEVEL one of the two levels. -/
theorem resetStateValues : Obligations.ResetStateValues :=
  fun _ h => ⟨rfl, rfl, rfl, Config.cast_resetPrevSw h, rfl, rfl, rfl, rfl, rfl, rfl, rfl⟩

/-- `RESET_STATE` with the k next input words of a state used up: what k reset steps from that state leave. -/
def State.resetAfter (s : State) (k : Nat) : State :=
  { State.resetFor s.cfg with inputs := s.inputs.drop k, cycle := s.cycle + k }

theorem State.resetAfter_resetAfter (s : State) (j k : Nat) : (s.resetAfter j).resetAfter k = s.resetAfter (j + k) := by
  unfold State.resetAfter
  rw [List.drop_drop, Nat.add_assoc]
  rfl

/-- A reset step leaves nothing of the state but the configuration and the inputs to come, and its outputs are 0 (R151, R153). -/
theorem step_resetAfter (h : s.cfg.refusal = none) (hr : s.inRst = true) : step s = .next (s.resetAfter 1) := by
  rw [State.resetAfter, List.drop_one]
  exact step_reset h hr

/-- Settles O38: by induction on the reset steps after the first, each of which makes `RESET_STATE` again. -/
theorem resetGivesResetState : Obligations.ResetGivesResetState := by
  intro k s h hrst
  show runs (k + 1) s = .next (s.resetAfter (k + 1))
  induction k generalizing s with
  | zero =>
    rw [runs_succ, step_resetAfter h (hrst 0 Nat.one_pos)]
    rfl
  | succ k ih =>
    have hstep : step s = .next (s.resetAfter 1) := step_resetAfter h (hrst 0 (Nat.succ_pos _))
    have hrst1 : ∀ j, j < k + 1 → (s.resetAfter 1).rstAt j = true := fun j hj => by
      rw [((step_inputs hstep).2 j).1]; exact hrst (j + 1) (Nat.succ_lt_succ hj)
    calc runs (k + 1 + 1) s
        = runs (k + 1) (s.resetAfter 1) := by rw [runs_succ, hstep]; rfl
      _ = .next ((s.resetAfter 1).resetAfter (k + 1)) := ih _ h hrst1
      _ = .next (s.resetAfter (k + 1 + 1)) := by rw [State.resetAfter_resetAfter, Nat.add_comm 1]

/-! ## The first tick (R154) -/

/-- The first step after reset is a poll at time 0 with elapsed time 0 (R154). -/
theorem State.SameRegisters.firstPoll (h : s.SameRegisters (State.resetFor c)) (hc : c.refusal = none) :
    s.nextNow = 0#32 ∧ s.nextT = 0 ∧ s.elapsed = 0#32 := by
  obtain ⟨-, hg, -, -, he, hnow⟩ := h.of_resetFor hc
  refine ⟨?_, ?_, he⟩
  · rw [State.nextNow, hnow]; exact resetNowUs_add c 0
  · rw [← hg.elapsed_on_grid, he]; exact Nat.zero_mod _

/-- Settles O40: from the first poll a run counts its cycles, which the tick is too short to wrap. -/
theorem firstTickAfterReset : Obligations.FirstTickAfterReset := by
  intro c s hb hsame _
  obtain ⟨hnow0, ht0, he0⟩ := hsame.firstPoll hb.1
  obtain ⟨rfl, hg, -, -, -, hnow⟩ := hsame.of_resetFor hb.1
  refine ⟨hnow0, ht0, he0, fun k hk hn => ?_⟩
  obtain ⟨s', hrun, hnow', ht'⟩ := runsCountCycles (k + 1) s hb hg.t_in_tick hn
  have hmax := Config.interval_add_slot_le hb.1
  have hlast : s.t + 1 = s.cfg.slot := (State.nextT_eq_zero_iff hg.t_in_tick).mp ht0
  refine ⟨s', hrun, ?time, ?position⟩
  case time => rw [hnow', hnow, resetNowUs_add, BitVec.toNat_ofNat, Nat.mod_eq_of_lt (by omega)]
  case position => rw [ht', Nat.add_comm k, ← Nat.add_assoc, hlast, Nat.add_mod_left, Nat.mod_eq_of_lt hk]

/-! ## The first poll (R155) -/

theorem State.SameRegisters.dim_reg_eq (h : a.SameRegisters b) : b.dim_reg = a.dim_reg := by
  obtain ⟨_, _, rfl⟩ := h.exists_inputs; rfl

/-- An update poll answers the registers of the update, counted (41_phase_mode.md R100, R102). -/
theorem step_update (h : s.cfg.refusal = none) (hr : s.inRst = false) (hp : s.nextT = 0) (hsame : s.tgt = s.mode)
    (hdue : s.cfg.interval ≤ s.elapsed.toNat) {sq : Int} (hq : s.blendAt s.updatedPhase = .ok sq) :
    step s = .next ((s.updateTick sq).count.drive (s.updateTick sq).count.out.1 (s.updateTick sq).count.out.2) := by
  rw [step_poll h hr hp, tickOperation_update hsame hdue, hq]
  rfl

/-- Settles O41: poll 0 is a transition for the AllOn level; else the elapsed time 0 makes it an update exactly for I = 0, and a hold
of the reset dimmer value 0 for I > 0. -/
theorem startUpCases : Obligations.StartUpCases := by
  intro c s hb hsame hr
  obtain ⟨hnow, hp, he⟩ := hsame.firstPoll hb.1
  obtain ⟨rfl, -, hm, -⟩ := hsame.of_resetFor hb.1
  have hdim : s.dim_reg = 0 := hsame.dim_reg_eq.symm
  have he' : s.elapsed.toNat = 0 := congrArg BitVec.toNat he
  cases htgt : s.tgt with
  | allOn =>
    have hchg : s.tgt ≠ s.mode := by rw [htgt, hm]; decide
    exact ⟨_, step_transition hb.1 hr hp hchg, fun _ => ⟨htgt, rfl, hnow, hdim⟩, nofun, nofun⟩
  | crossfade =>
    have hkeep : s.tgt = s.mode := htgt.trans hm.symm
    obtain hI | hI := Nat.eq_zero_or_pos s.cfg.interval
    · obtain ⟨sq, hq⟩ := State.blendAt_ok hb s.updatedPhase
      exact ⟨_, step_update hb.1 hr hp hkeep (by omega) hq, nofun, fun _ _ => ⟨hm, rfl, rfl⟩,
        fun _ hpos => absurd hI (Nat.ne_of_gt hpos)⟩
    · obtain ⟨sq, hq⟩ := State.blendAt_ok hb s.phase_acc
      obtain ⟨-, -, hdark, -⟩ := planDurationBounds s.cfg sq 0 hb.1
      have hplan : s.cfg.plan sq s.dim_reg = ⟨0, 0⟩ := by rw [hdim, hdark]
      exact ⟨_, step_hold hb.1 hr hp hkeep (by omega) hq, nofun, fun _ hzero => absurd hzero (Nat.ne_of_gt hI),
        fun _ _ => ⟨hm, rfl, hdim, congrArg PulsePlan.w hplan, congrArg PulsePlan.c hplan⟩⟩

/-! ## Power-up (R157) -/

/-- The free values are cut to the widths of their registers (log 11). -/
theorem State.powerUp_fitsWidths (c : Config) : (State.powerUp c).FitsWidths where
  t_fits := Nat.mod_lt _ (Nat.two_pow_pos _)
  phase_acc_fits := Nat.mod_lt _ (Nat.two_pow_pos _)
  dim_reg_fits := Nat.mod_lt _ (Nat.two_pow_pos _)
  plan_w_fits := Nat.mod_lt _ (Nat.two_pow_pos _)
  plan_c_fits := Nat.mod_lt _ (Nat.two_pow_pos _)

/-- Settles O60: the reset step of O38 from the power-up state, whose first listed input word has `rst` = 1. -/
theorem powerUpFitsAndResets : Obligations.PowerUpFitsAndResets :=
  fun c w ws h hw => ⟨State.powerUp_fitsWidths c, step_resetAfter (s := { State.powerUp c with inputs := w :: ws }) h hw⟩

end Machine

end Sys2Proof
end
